-- ==== Sys2Proof/Word.lean ====
section
/-! DEFINITION. The words of the block: command words, bus addresses, bytes, counts, and the clock sentinel. -/

namespace Sys2Proof

/-- A 32-bit command word (R140). -/
abbrev Word := BitVec 32
/-- A 16-bit bus address (R10). -/
abbrev Addr := BitVec 16
/-- A bus datum (R10). -/
abbrev Byte := BitVec 8
/-- The 24-bit count operand `n` (R140, R141). -/
abbrev Count := BitVec 24

/-- `INF = 0x7FFFFFFF` (R11): no pending event, and the largest value a clock counter holds (R10). -/
abbrev inf : Nat := 0x7FFFFFFF

/-- Clocks per frame in single speed (R251). -/
abbrev frameClocks : Nat := 70224

/-- Clocks of one OAM DMA transfer, 160 × 4 + 4 (R350). -/
abbrev odmaClocks : Nat := 644

end Sys2Proof
end

