-- ==== Sys2Proof/Syntax.lean ====
section
/-! DEFINITION. The commands of the block, one constructor per row of the opcode table (R145). -/

namespace Sys2Proof

/-- A command (R145, R146). -/
inductive Instr where
  | rd8 (addr : Addr)
  | wr8 (addr : Addr) (data : Byte)
  | rdreg8 (addr : Addr)
  | wrreg8 (addr : Addr) (data : Byte)
  | clkget
  | clkadd (n : Count)
  | brkchk
  | irqchk
  | dmaexec (n : Count)
  | horizon
  | reconcileTimer (n : Count)
  | reconcileSerial (n : Count)
  | reconcilePpu (n : Count)
  | reconcileSound (n : Count)
  | reconcileDma (n : Count)
  | reconcileCamera (n : Count)
  | nextevtTimer
  | nextevtSerial
  | nextevtPpu
  | nextevtSound
  | nextevtDma
  | nextevtCamera
  | subresetTimer
  | subresetSerial
  | subresetPpu
  | subresetSound
  | subresetDma
  | subresetCamera
  | runfor (n : Count)
  | poweron (model : BitVec 3) (boot cgb : Bool)
  | mappersetNone
  | mappersetMbc1
  | mappersetMbc2
  | mappersetMbc3
  | mappersetMbc5
  | mappersetMbc6
  | mappersetMbc7
  | mappersetMmm01
  | mappersetRumble
  | mappersetCamera
  | cpusetPc (addr : Addr)
  | cpusetSp (addr : Addr)
  | cpusetIme (ime : Bool)
  | cpusetHaltRun
  | cpusetHaltHalt
  | cpusetHaltStop
  deriving DecidableEq, Repr

end Sys2Proof
end

