-- ==== Sys2Proof/WellFormed.lean ====
section
/-! DEFINITION. Which commands have an encoding: the register accessors take only the 0xFF page (R145, R147). -/

namespace Sys2Proof

/-- Bits 15:8 of an address are 0xFF (R145). -/
abbrev inRegPage (a : Addr) : Bool := a.extractLsb' 8 8 == 0xFF#8

/-- The operand checks of R145: RDREG8 and WRREG8 need `addr[15:8] = 0xFF`; every other operand admits all its values. -/
def Instr.wellFormed : Instr → Bool
  | .rdreg8 a => inRegPage a
  | .wrreg8 a _ => inRegPage a
  | .rd8 _ | .wr8 _ _ | .clkget | .clkadd _ | .brkchk | .irqchk | .dmaexec _ | .horizon
  | .reconcileTimer _ | .reconcileSerial _ | .reconcilePpu _ | .reconcileSound _ | .reconcileDma _ | .reconcileCamera _
  | .nextevtTimer | .nextevtSerial | .nextevtPpu | .nextevtSound | .nextevtDma | .nextevtCamera
  | .subresetTimer | .subresetSerial | .subresetPpu | .subresetSound | .subresetDma | .subresetCamera
  | .runfor _ | .poweron _ _ _
  | .mappersetNone | .mappersetMbc1 | .mappersetMbc2 | .mappersetMbc3 | .mappersetMbc5
  | .mappersetMbc6 | .mappersetMbc7 | .mappersetMmm01 | .mappersetRumble | .mappersetCamera
  | .cpusetPc _ | .cpusetSp _ | .cpusetIme _ | .cpusetHaltRun | .cpusetHaltHalt | .cpusetHaltStop => true

end Sys2Proof
end

