-- ==== Sys2Proof/Decode.lean ====
section
/-! DEFINITION. The decoder of command words and the encoder, both from the opcode map R145 and R146. -/

namespace Sys2Proof

/-- Why a word is illegal (R147). -/
inductive DecodeError where
  /-- op 0x00 or 0x12-0x1F -/
  | reservedOp
  /-- a non-zero "must be 0" field -/
  | mustBeZero
  /-- subsystem id 6 or 7 -/
  | reservedSubsystem
  /-- mapper kind 10-255 -/
  | reservedMapper
  /-- CPUSET selector 4-7 -/
  | reservedSelector
  /-- halt mode 3-255 -/
  | reservedHaltMode
  /-- RDREG8 or WRREG8 with `addr[15:8] ≠ 0xFF` -/
  | notRegPage
  deriving DecidableEq, Repr

/-- bits 31:27 (R140) -/
def opField (w : Word) : BitVec 5 := w.extractLsb' 27 5
/-- bits 26:24 (R140) -/
def subField (w : Word) : BitVec 3 := w.extractLsb' 24 3
/-- bits 23:16 (R140) -/
def dataField (w : Word) : Byte := w.extractLsb' 16 8
/-- bits 15:0 (R140) -/
def addrField (w : Word) : Addr := w.extractLsb' 0 16
/-- bits 23:0 (R140) -/
def countField (w : Word) : Count := w.extractLsb' 0 24

/-- Accept `i` if a "must be 0" condition holds, refuse the word otherwise (R145). -/
def requireZero (ok : Bool) (i : Instr) : Except DecodeError Instr :=
  if ok then .ok i else .error .mustBeZero

/-- RECONCILE (op 0x0B): `sub` is the subsystem id, `n` the reference (R142, R145). -/
def decodeReconcile (w : Word) : Except DecodeError Instr :=
  let n := countField w
  match (subField w).toNat with
  | 0 => .ok (.reconcileTimer n)
  | 1 => .ok (.reconcileSerial n)
  | 2 => .ok (.reconcilePpu n)
  | 3 => .ok (.reconcileSound n)
  | 4 => .ok (.reconcileDma n)
  | 5 => .ok (.reconcileCamera n)
  | _ => .error .reservedSubsystem

/-- NEXTEVT (op 0x0C): `sub` is the subsystem id, `n` must be 0 (R142, R145). -/
def decodeNextevt (w : Word) : Except DecodeError Instr :=
  let z := countField w == 0
  match (subField w).toNat with
  | 0 => requireZero z .nextevtTimer
  | 1 => requireZero z .nextevtSerial
  | 2 => requireZero z .nextevtPpu
  | 3 => requireZero z .nextevtSound
  | 4 => requireZero z .nextevtDma
  | 5 => requireZero z .nextevtCamera
  | _ => .error .reservedSubsystem

/-- SUBRESET (op 0x0D): `sub` is the subsystem id, `n` must be 0 (R142, R145). -/
def decodeSubreset (w : Word) : Except DecodeError Instr :=
  let z := countField w == 0
  match (subField w).toNat with
  | 0 => requireZero z .subresetTimer
  | 1 => requireZero z .subresetSerial
  | 2 => requireZero z .subresetPpu
  | 3 => requireZero z .subresetSound
  | 4 => requireZero z .subresetDma
  | 5 => requireZero z .subresetCamera
  | _ => .error .reservedSubsystem

/-- MAPPERSET (op 0x10): `data` is the mapper kind, `sub` and `addr` must be 0 (R144, R145). -/
def decodeMapperset (w : Word) : Except DecodeError Instr :=
  let z := subField w == 0 && addrField w == 0
  match (dataField w).toNat with
  | 0 => requireZero z .mappersetNone
  | 1 => requireZero z .mappersetMbc1
  | 2 => requireZero z .mappersetMbc2
  | 3 => requireZero z .mappersetMbc3
  | 4 => requireZero z .mappersetMbc5
  | 5 => requireZero z .mappersetMbc6
  | 6 => requireZero z .mappersetMbc7
  | 7 => requireZero z .mappersetMmm01
  | 8 => requireZero z .mappersetRumble
  | 9 => requireZero z .mappersetCamera
  | _ => .error .reservedMapper

/-- CPUSET (op 0x11): `sub` is the selector (R146). -/
def decodeCpuset (w : Word) : Except DecodeError Instr :=
  let d := dataField w
  let a := addrField w
  match (subField w).toNat with
  | 0 => requireZero (d == 0) (.cpusetPc a)
  | 1 => requireZero (d == 0) (.cpusetSp a)
  | 2 => requireZero (d.extractLsb' 1 7 == 0 && a == 0) (.cpusetIme (d.getLsbD 0))
  | 3 =>
    match d.toNat with
    | 0 => requireZero (a == 0) .cpusetHaltRun
    | 1 => requireZero (a == 0) .cpusetHaltHalt
    | 2 => requireZero (a == 0) .cpusetHaltStop
    | _ => .error .reservedHaltMode
  | _ => .error .reservedSelector

/-- The decoder (R145-R148), total on every word. -/
def decode (w : Word) : Except DecodeError Instr :=
  let s0 := subField w == 0
  let d := dataField w
  let a := addrField w
  let n := countField w
  match (opField w).toNat with
  | 0x01 => requireZero (s0 && d == 0) (.rd8 a)
  | 0x02 => requireZero s0 (.wr8 a d)
  | 0x03 => if inRegPage a then requireZero (s0 && d == 0) (.rdreg8 a) else .error .notRegPage
  | 0x04 => if inRegPage a then requireZero s0 (.wrreg8 a d) else .error .notRegPage
  | 0x05 => requireZero (s0 && n == 0) .clkget
  | 0x06 => requireZero s0 (.clkadd n)
  | 0x07 => requireZero (s0 && n == 0) .brkchk
  | 0x08 => requireZero (s0 && n == 0) .irqchk
  | 0x09 => requireZero s0 (.dmaexec n)
  | 0x0A => requireZero (s0 && n == 0) .horizon
  | 0x0B => decodeReconcile w
  | 0x0C => decodeNextevt w
  | 0x0D => decodeSubreset w
  | 0x0E => requireZero s0 (.runfor n)
  | 0x0F => requireZero (d.extractLsb' 2 6 == 0 && a == 0) (.poweron (subField w) (d.getLsbD 0) (d.getLsbD 1))
  | 0x10 => decodeMapperset w
  | 0x11 => decodeCpuset w
  | _ => .error .reservedOp

/-- A word from its four fields op, sub, data, addr (R140). -/
def packAddr (op : BitVec 5) (sub : BitVec 3) (data : Byte) (addr : Addr) : Word := op ++ sub ++ data ++ addr

/-- A word from its fields op, sub and the count `n` (R140). -/
def packCount (op : BitVec 5) (sub : BitVec 3) (n : Count) : Word := op ++ sub ++ n

/-- A one-bit operand in bit `k` of `data`, every other bit 0 (R143, R146). -/
def dataBit (k : Nat) (b : Bool) : Byte := if b then BitVec.ofNat 8 (2 ^ k) else 0

/-- The encoder (R140, R145, R146). -/
def encode : Instr → Word
  | .rd8 a => packAddr 0x01 0 0 a
  | .wr8 a d => packAddr 0x02 0 d a
  | .rdreg8 a => packAddr 0x03 0 0 a
  | .wrreg8 a d => packAddr 0x04 0 d a
  | .clkget => packCount 0x05 0 0
  | .clkadd n => packCount 0x06 0 n
  | .brkchk => packCount 0x07 0 0
  | .irqchk => packCount 0x08 0 0
  | .dmaexec n => packCount 0x09 0 n
  | .horizon => packCount 0x0A 0 0
  | .reconcileTimer n => packCount 0x0B 0 n
  | .reconcileSerial n => packCount 0x0B 1 n
  | .reconcilePpu n => packCount 0x0B 2 n
  | .reconcileSound n => packCount 0x0B 3 n
  | .reconcileDma n => packCount 0x0B 4 n
  | .reconcileCamera n => packCount 0x0B 5 n
  | .nextevtTimer => packCount 0x0C 0 0
  | .nextevtSerial => packCount 0x0C 1 0
  | .nextevtPpu => packCount 0x0C 2 0
  | .nextevtSound => packCount 0x0C 3 0
  | .nextevtDma => packCount 0x0C 4 0
  | .nextevtCamera => packCount 0x0C 5 0
  | .subresetTimer => packCount 0x0D 0 0
  | .subresetSerial => packCount 0x0D 1 0
  | .subresetPpu => packCount 0x0D 2 0
  | .subresetSound => packCount 0x0D 3 0
  | .subresetDma => packCount 0x0D 4 0
  | .subresetCamera => packCount 0x0D 5 0
  | .runfor n => packCount 0x0E 0 n
  | .poweron m b c => packAddr 0x0F m (dataBit 0 b ||| dataBit 1 c) 0
  | .mappersetNone => packAddr 0x10 0 0 0
  | .mappersetMbc1 => packAddr 0x10 0 1 0
  | .mappersetMbc2 => packAddr 0x10 0 2 0
  | .mappersetMbc3 => packAddr 0x10 0 3 0
  | .mappersetMbc5 => packAddr 0x10 0 4 0
  | .mappersetMbc6 => packAddr 0x10 0 5 0
  | .mappersetMbc7 => packAddr 0x10 0 6 0
  | .mappersetMmm01 => packAddr 0x10 0 7 0
  | .mappersetRumble => packAddr 0x10 0 8 0
  | .mappersetCamera => packAddr 0x10 0 9 0
  | .cpusetPc a => packAddr 0x11 0 0 a
  | .cpusetSp a => packAddr 0x11 1 0 a
  | .cpusetIme b => packAddr 0x11 2 (dataBit 0 b) 0
  | .cpusetHaltRun => packAddr 0x11 3 0 0
  | .cpusetHaltHalt => packAddr 0x11 3 1 0
  | .cpusetHaltStop => packAddr 0x11 3 2 0

/-- The command word of a table row's bits: commands are whole 32-bit words, not memory bytes (R140), so the bits
`w` (the bits from `nbits` up are 0) are the word. -/
def tableWord (nbits w : Nat) : Word := BitVec.ofNat 32 (w % 2 ^ nbits)

/-- The instruction the decoder reads from an instruction whose bits are `w`. -/
def decodeTableWord (nbits w : Nat) : Option Instr :=
  match decode (tableWord nbits w) with
  | .ok i => some i
  | .error _ => none

end Sys2Proof
end

