-- ==== Sys2Proof/Config.lean ====
section
/-! DEFINITION. What an implementation or a collaborator fixes: the parameters of R9 as plain data, and the free
values of the spec (draws, collaborator behaviour, layouts the source does not give) as constants without a body. -/

namespace Sys2Proof

/-- The six hardware models (R3, R9, R143). -/
inductive HwModel where
  | dmg | mgb | sgb | sgb2 | cgb | agb
  deriving DecidableEq, Repr, Inhabited

/-- The ten mapper kinds (R144). -/
inductive MapperKind where
  | none | mbc1 | mbc2 | mbc3 | mbc5 | mbc6 | mbc7 | mmm01 | rumble | camera
  deriving DecidableEq, Repr, Inhabited

/-- The six reconciled subsystems (R142). -/
inductive Subsystem where
  | timer | serial | ppu | sound | dma | camera
  deriving DecidableEq, Repr, Inhabited

/-- The collaborators that own I/O addresses or state of their own (R57, R430). -/
inductive Collab where
  | ppu | sound | serial | camera | joypad
  deriving DecidableEq, Repr, Inhabited

/-- `TIMA_WRITE_IN_RELOAD` (R323, D32). -/
inductive TimaWriteInReload where
  | cancel | overwritten
  deriving DecidableEq, Repr, Inhabited

/-- `TAC_WRITE_GLITCH` (R327, D33): the suggested default, or the free predicate `Config.tacWriteGlitch`. -/
inductive TacGlitch where
  | fallingEdge | supplied
  deriving DecidableEq, Repr, Inhabited

/-- `STOP_EXIT` (R481, D40): the default `IF[4] = 1`, or the free predicate `Config.stopExit` of the block state. -/
inductive StopExit where
  | joypadPending | supplied
  deriving DecidableEq, Repr, Inhabited

/-- `SPEED_SWITCH` (R482, D35). -/
inductive SpeedSwitch where
  | onStop | never
  deriving DecidableEq, Repr, Inhabited

/-- `RTC_SOURCE` (R454, D56). -/
inductive RtcSource where
  | host | emulated
  deriving DecidableEq, Repr, Inhabited

/-- One range of `BOOT_OVERLAY_EXTRA(HW_MODEL)` (R93, D14). -/
structure OverlayRange where
  model : HwModel
  first : Nat
  last : Nat
  deriving DecidableEq, Repr, Inhabited

/-- The parameters of R9. No command changes them but POWERON (hwModel, cgbMode, bootRomPresent) and the
cartridge loader (romBanks, eramBanks). -/
structure Params where
  hwModel : HwModel
  cgbMode : Bool
  bootRomPresent : Bool
  overlayExtra : List OverlayRange
  strictVram : Bool
  blockWrites : Bool
  oamDmaBusConflict : Bool
  romBanks : Nat
  eramBanks : Nat
  gdmaBlockSingle : Nat
  gdmaBlockDouble : Nat
  hdmaPrepClocks : Nat
  timaWriteInReload : TimaWriteInReload
  tacGlitch : TacGlitch
  haltWakeExtra : Nat
  haltGranule : Nat
  stopExit : StopExit
  speedSwitch : SpeedSwitch
  speedSwitchClocks : Nat
  rtcSource : RtcSource
  hasPpu : Bool
  hasSound : Bool
  hasSerial : Bool
  hasCamera : Bool
  hasJoypad : Bool
  mapperSupplied : Bool
  serialPartner : Bool
  cameraDevice : Bool
  claimsDmg : List (Addr × Collab)
  claimsCgb : List (Addr × Collab)
  deriving DecidableEq, Repr, Inhabited

/-- A collaborator's own state: its opaque core and the clocks to its next time-bound transition
(none when it has no pending one; R280). -/
structure CollabCore where
  core : List Byte
  wait : Option Nat
  deriving DecidableEq, Repr, Inhabited

/-- The PPU's modes (R432). -/
inductive PpuMode where
  | m0 | m1 | m2 | m3
  deriving DecidableEq, Repr, Inhabited

/-- What the block reads of the PPU (R54, R432). -/
structure PpuView where
  mode : PpuMode
  ly : Byte
  lcdOn : Bool
  deriving DecidableEq, Repr, Inhabited

/-- The renderer variants (R433). -/
inductive Renderer where
  | dmg | cgb | cgbCompat
  deriving DecidableEq, Repr, Inhabited

/-- What one PPU clock does: the new core, mode and line; the interrupts it raises and the clocks to the next IF setting
and to the next mode-0 entry, which count where a bound of `Next_PPU` runs out (R287, R289, R432). -/
structure PpuStep where
  core : List Byte
  mode : PpuMode
  ly : Byte
  wait : Option Nat
  hblankIn : Option Nat
  vblank : Bool
  stat : Bool
  deriving DecidableEq, Repr, Inhabited

/-- What a PPU register write leaves beside the PPU's core: its view and the clocks to its next mode-0 entry (R431). -/
structure PpuAfterWrite where
  view : PpuView
  hblankIn : Option Nat
  deriving DecidableEq, Repr, Inhabited

/-- What a collaborator's clock may depend on beside its own state: the console, the family and the speed. -/
structure CollabContext where
  hwModel : HwModel
  cgb : Bool
  doubleSpeed : Bool
  deriving DecidableEq, Repr, Inhabited

/-- What a collaborator's register write leaves: its new state, the bytes it keeps in `io_shadow` at addresses it owns
(R58), and whether it asks for the joypad's IF[4], which only the joypad may (R289, R447). -/
structure CollabWrite where
  next : CollabCore
  shadow : List (Addr × Byte)
  irq : Bool
  deriving DecidableEq, Repr, Inhabited

/-- What the declared side effect of a register read leaves: the collaborator's new state, and the bytes it keeps in
`io_shadow` at addresses it owns (R58, R194, R430). -/
structure CollabReadEffect where
  next : CollabCore
  shadow : List (Addr × Byte)
  deriving DecidableEq, Repr, Inhabited

/-- The bank registers of a mapper kind whose layout the source does not give (R456, D48), or of a supplied mapper
model (R451). -/
structure BankRegs where
  ramEnabled : Bool
  lowBank : Nat
  romBank : Nat
  ramBank : Nat
  core : List Byte
  deriving DecidableEq, Repr, Inhabited

/-- What a supplied mapper model knows beside its registers where it is written, bound or saved: the bank counts and the
clocks counted so far (R450, R454). -/
structure MapperContext where
  romBanks : Nat
  eramBanks : Nat
  clock : Nat
  deriving DecidableEq, Repr, Inhabited

/-- The states of the MBC7 EEPROM machine (R455). -/
inductive EepromPhase where
  | idle | receiveCommand | receiveAddress | receiveData | shiftOut | done
  deriving DecidableEq, Repr, Inhabited

/-- The four EEPROM commands (R455). -/
inductive EepromCommand where
  | writeEnableControl | writeAll | read | erase
  deriving DecidableEq, Repr, Inhabited

/-- The EEPROM's serial side: phase, last pin levels, the 2-bit command code once it is received, address and pending
cell value (R455). -/
structure Eeprom where
  phase : EepromPhase
  cs : Bool
  sk : Bool
  code : Option (BitVec 2)
  address : Nat
  pending : Option Nat
  core : List Byte
  deriving DecidableEq, Repr, Inhabited

/-- What a pin edge the source does not list leads to: the serial side but for the pins, and the cells it writes (R455). -/
structure EepromStep where
  phase : EepromPhase
  code : Option (BitVec 2)
  address : Nat
  pending : Option Nat
  core : List Byte
  cells : List (Nat × Nat)
  deriving DecidableEq, Repr, Inhabited

/-- The three pins a byte written to 0xA080 drives (R455). -/
structure EepromPins where
  cs : Bool
  sk : Bool
  dataIn : Bool
  deriving DecidableEq, Repr, Inhabited

/-- The MBC3 real-time clock's registers (R454). -/
structure Rtc where
  seconds : Byte
  minutes : Byte
  hours : Byte
  days : BitVec 9
  carry : Bool
  halt : Bool
  deriving DecidableEq, Repr, Inhabited

/-- A value on the response port (R149), or the bytes the host takes between commands: audio samples, and a save with
its RTC block, if the cartridge has one (R408). -/
inductive Response where
  | byte (b : Byte)
  | clocks (n : Nat)
  | flag (b : Bool)
  | samples (bytes : List Byte)
  | saved (banks : List (List Byte)) (rtc : Option Rtc)
  deriving DecidableEq, Repr, Inhabited

namespace Config

/-- `draw()` (R12): the n-th free 8-bit input, under no law. -/
opaque draw : Nat → Byte
/-- The byte an unwritten RAM address holds after the `gen`-th filling of RAM by draws (R400, D41). -/
opaque ramDraw (gen addr : Nat) : Byte

/-- `STRICT_VRAM` (R9 gives no default). -/
opaque strictVram : Bool
/-- `GDMA_BLOCK_CLOCKS` for single (false) and double (true) speed (D26: no default). -/
opaque gdmaBlockClocks : Bool → Nat
/-- `HDMA_PREP_CLOCKS` (D26: no default). -/
opaque hdmaPrepClocks : Nat
/-- `TIMA_WRITE_IN_RELOAD` (D32: no default). -/
opaque timaWriteInReload : TimaWriteInReload
/-- `RTC_SOURCE` (D56: no default). -/
opaque rtcSource : RtcSource
/-- `TAC_WRITE_GLITCH(HW_MODEL, old_tac, new_tac, sys_clocks, old_sig, new_sig)` (R327). -/
opaque tacWriteGlitch : HwModel → BitVec 3 → BitVec 3 → BitVec 16 → Bool → Bool → Bool
/-- The command a CPU step issues next, or none at its end (R252): from the executor's own state, the context the
block holds for it (PC, SP, IME) at the start of the step, how many commands the step has issued, and its responses. -/
opaque cpuNext : List Byte → Addr → Addr → Bool → Nat → List Response → Option Word
/-- A bound on the commands of that step (R252: "a finite sequence"). -/
opaque cpuLength : List Byte → Addr → Addr → Bool → Nat
/-- The executor's own state after that step. -/
opaque cpuAfter : List Byte → Addr → Addr → Bool → List Response → List Byte

/-- One clock of the core of a supplied sound, serial or camera model (R280). -/
opaque collabTick : Collab → CollabContext → List Byte → List Byte
/-- The transition a supplied sound, serial or camera model makes when its wait runs out (R280). -/
opaque collabEvent : Collab → List Byte → CollabCore
/-- A collaborator's register read, from its core, the `io_shadow` bytes of the addresses it owns and the address (R58,
R192); of the block it sees no more than that (DESIGN CHOICE, log 29). -/
opaque collabRead : Collab → List Byte → (Addr → Byte) → Addr → Byte
/-- Whether a collaborator declares a side effect for a read of an address (R194, R430). -/
opaque collabReadDeclares : Collab → Addr → Bool
/-- The declared side effect of a register read (R430), from the collaborator's own state, the `io_shadow` bytes of the
addresses it owns and the address (R58; log 29). -/
opaque collabReadEffect : Collab → CollabCore → (Addr → Byte) → Addr → CollabReadEffect
/-- A collaborator's register write, from its own state, the `io_shadow` bytes of the addresses it owns, the address, the
byte, the CGB family and the double speed (R58, R192, R431); of the block it sees no more than that (DESIGN CHOICE, log
29). -/
opaque collabWrite : Collab → CollabCore → (Addr → Byte) → Addr → Byte → Bool → Bool → CollabWrite

/-- One PPU clock, from the context, its view, core, VRAM and OAM (R432, R434, R437). -/
opaque ppuStep : CollabContext → PpuView → List Byte → (Nat → Byte) → (Nat → Byte) → PpuStep
/-- The PPU's view and its next mode-0 entry after a register write that left the given core (R431, R435). -/
opaque ppuAfterWrite : PpuView → List Byte → Addr → Byte → PpuAfterWrite
/-- The renderer's "draw this scanline" callback, on the PPU's core (R432, R433). -/
opaque ppuDraw : Renderer → Byte → List Byte → (Nat → Byte) → (Nat → Byte) → List Byte

/-- The sound collaborator's sample buffer as its core holds it (R441). -/
opaque soundSamples : List Byte → List Byte

/-- Whether a serial transition completes a transfer (R443). -/
opaque serialCompletes : List Byte → Bool
/-- Whether the transfer under way runs on the external clock (R444). -/
opaque serialExternalClock : List Byte → Bool
/-- The serial core after a completed transfer received a byte (R444). -/
opaque serialReceive : List Byte → Byte → List Byte

/-- Whether a camera transition is a capture (R446). -/
opaque cameraCaptures : List Byte → Bool
/-- The sensor frame a capture takes, with (true) or without a camera device (R446). -/
opaque cameraFrame : Bool → List Byte → List Byte
/-- Where in external RAM a captured frame is copied (R446, R456). -/
opaque cameraTarget : List Byte → Nat
/-- Whether the camera's filter combination is one the source does not emulate (R446, R490). -/
opaque cameraFilterUnsupported : List Byte → Bool

/-- The joypad core after the host moves its lines to `keys`, and whether that raises IF[4] (R447). -/
opaque joypadInput : List Byte → Byte → List Byte × Bool

/-- `Mapper.init` of a kind without a layout in the spec (R450, R456). -/
opaque mapperInit : MapperKind → Nat → Nat → BankRegs
/-- A bank-select write to such a kind (R450, R456). -/
opaque mapperSelect : MapperKind → BankRegs → Nat → Nat → Addr → Byte → BankRegs
/-- `Mapper.init` of a supplied mapper model, from the kind and the loader's RTC block (R450, R451, R460). -/
opaque mapperBind : MapperKind → Rtc → MapperContext → BankRegs
/-- A supplied mapper model's register at an address of 0xA000-0xBFFF while RAM is enabled, where its registers select one
there; none where external RAM is selected (R450, R451, R454). It sees the bank counts (ROM, then RAM) and no clock, as no
bus read does (R286). -/
opaque mapperWindow : MapperKind → BankRegs → Nat → Nat → Addr → Option Byte
/-- A write to a register of a supplied mapper model, bank-select or window, with drawn bytes for what comes from outside
(host time, sensors), address and byte (R450, R451, R454). -/
opaque mapperWrite : MapperKind → BankRegs → MapperContext → List Byte → Addr → Byte → BankRegs
/-- The RTC block a supplied mapper model gives a save, with drawn bytes for the host's time (R408, R454). -/
opaque mapperSavedRtc : MapperKind → BankRegs → MapperContext → List Byte → Option Rtc
/-- Whether a Camera cartridge's bank registers put the camera's registers at an address of 0xA000-0xBFFF (R446). -/
opaque cameraWindow : BankRegs → Addr → Bool
/-- The ROM bank an MBC1 selects while its upper-bits register is not 0: bank register, upper bits, mode, banks (R451). -/
opaque mbc1RomBank : BitVec 5 → BitVec 2 → Bool → Nat → Nat
/-- The bank an MBC1 shows at 0x0000-0x3FFF in mode 1 while its upper bits are not 0 (R453). -/
opaque mbc1LowBank : BitVec 2 → Nat → Nat
/-- How many RTC seconds have begun when the reference clock has counted the given clocks (R454, D56). -/
opaque rtcSeconds : Nat → Nat
/-- The pins a byte written to 0xA080 drives (R455). -/
opaque mbc7Pins : Byte → EepromPins
/-- The command a 2-bit code selects (R455). -/
opaque mbc7Command : BitVec 2 → EepromCommand
/-- The EEPROM transitions the source does not list, given the command selected, the new pins and the cells (R455). -/
opaque mbc7Other : Option EepromCommand → Eeprom → EepromPins → (Nat → Nat) → EepromStep
/-- A write to the MBC7 window away from 0xA080, on the mapper's core, with drawn accelerometer readings (R455). -/
opaque mbc7Sensor : List Byte → List Byte → Addr → Byte → List Byte
/-- The EEPROM's contents where no write has been committed (R455: not in the source). -/
opaque mbc7Cell : Nat → Nat
/-- A read of an enabled MBC7's external-RAM window (R455). -/
opaque mbc7Read : Eeprom → (Nat → Nat) → List Byte → Addr → Byte

end Config

end Sys2Proof
end

