-- ==== Sys2Proof/Machine/State.lean ====
section
/-! DEFINITION. The block state of spec/10_state.md as plain data, the fault codes, and the state after reset. -/

namespace Sys2Proof

/-- The RTC registers before any save block or latch (log 18). -/
def Rtc.zero : Rtc := { seconds := 0, minutes := 0, hours := 0, days := 0, carry := false, halt := false }

end Sys2Proof

namespace Sys2Proof.Machine

/-- The contract violations of R496. They are STATE: a command that violates a contract records the code in
`State.fault` and answers a next state (R495), so no step of this machine ends in a Host fault. -/
inductive Fault where
  /-- code 1, raised by CLKADD, DMAEXEC, IRQCHK, CPUSET (a speed switch) and RUNFOR steps when `ref` would exceed
  0x7FFFFFFF (R241); safe: recorded as the spec says, the clock is not advanced. -/
  | clockOverflow
  /-- code 2, raised by RECONCILE of a subsystem other than Sound to a reference below its counter (R281); safe. -/
  | refBackwards
  /-- code 3, raised by RECONCILE to a reference beyond the shared clock (R281); safe. -/
  | refAhead
  /-- code 4, raised by NEXTEVT and HORIZON when a subsystem reports fewer than 1 clock (R282); safe. -/
  | nextevt
  /-- code 5, raised by a CPU step whose CLKADDs sum to 0 (R252); safe. -/
  | cpuNoProgress
  /-- code 6, raised by RD8, WR8, RDREG8, WRREG8 and IRQCHK while general DMA owns the CPU (R374); safe. -/
  | cpuDuringGdma
  /-- code 7, raised by a CPU step that issues a command outside its set (R252, R406); safe. -/
  | cpuProtocol
  deriving DecidableEq, Repr, Inhabited

/-- Why a command has no meaning in this model. -/
inductive Refusal where
  /-- an arm of `exec` without a meaning answers so; safe (nothing is claimed of the command). No arm does. -/
  | notModelled (mnemonic : String)
  deriving DecidableEq, Repr

/-- `phase` (R37). -/
inductive Phase where
  | idle | burst
  deriving DecidableEq, Repr, Inhabited

/-- `family` (R40). -/
inductive Family where
  | dmg | cgb
  deriving DecidableEq, Repr, Inhabited

/-- `dispatch_set` (R41). -/
inductive DispatchSet where
  | dmgBoot | dmgNoboot | cgbBoot | cgbNoboot
  deriving DecidableEq, Repr, Inhabited

/-- `halt_mode` (R45). -/
inductive HaltMode where
  | run | halt | stop
  deriving DecidableEq, Repr, Inhabited

/-- `hdma_mode` (R48). -/
inductive HdmaMode where
  | none | general | hblank
  deriving DecidableEq, Repr, Inhabited

/-- A byte array: the listed cells, and the filling `gen` that says what an unlisted address reads as. -/
structure Mem where
  gen : Nat
  cells : List Host.Cell
  deriving DecidableEq, Repr, Inhabited

/-- The lagging counters `last[s]` (R34). -/
structure Lasts where
  timer : Nat
  serial : Nat
  ppu : Nat
  sound : Nat
  dma : Nat
  camera : Nat
  deriving DecidableEq, Repr, Inhabited

/-- The timer's fields (R46). -/
structure Timer where
  sysClocks : BitVec 16
  tima : Byte
  tma : Byte
  tac : BitVec 3
  reloadCd : Nat
  irqCd : Nat
  deriving DecidableEq, Repr, Inhabited

/-- The OAM DMA fields (R47). -/
structure Odma where
  active : Bool
  src : Addr
  elapsed : Nat
  copied : Nat
  reg : Byte
  deriving DecidableEq, Repr, Inhabited

/-- The GDMA/HDMA fields (R48). -/
structure Hdma where
  mode : HdmaMode
  remaining : Nat
  prepLeft : Nat
  copyLeft : Nat
  src : Addr
  dst : Addr
  lastLy : Option Byte
  srcReg : Addr
  dstReg : Addr
  stall : Nat
  deriving DecidableEq, Repr, Inhabited

/-- MBC1 (R451): RAM enable, 5-bit bank register, upper-bits register, banking mode. -/
structure Mbc1 where
  ramEnabled : Bool
  bank : BitVec 5
  upper : BitVec 2
  mode : Bool
  deriving DecidableEq, Repr, Inhabited

/-- MBC3 (R451, R454): RAM enable, 7-bit bank register, RAM/RTC select, the latch's first write seen, the running
and the latched clock, and the clock count up to which the running clock is current. -/
structure Mbc3 where
  ramEnabled : Bool
  bank : BitVec 7
  select : BitVec 4
  latchArmed : Bool
  running : Rtc
  latched : Rtc
  since : Nat
  deriving DecidableEq, Repr, Inhabited

/-- MBC5 (R451): RAM enable, 9-bit bank register, RAM bank. -/
structure Mbc5 where
  ramEnabled : Bool
  bank : BitVec 9
  ramBank : BitVec 4
  deriving DecidableEq, Repr, Inhabited

/-- MBC7 (R455): its bank registers (layout not in the source), the EEPROM's serial side and its committed cells. -/
structure Mbc7 where
  banks : BankRegs
  eeprom : Eeprom
  cells : List (Nat × Nat)
  deriving DecidableEq, Repr, Inhabited

/-- `mapper` (R51): the tagged union over mapper kind; the tag is MAPPER_KIND. The last constructor is a supplied mapper
model of a kind (R9, R451, R457). -/
inductive Mapper where
  | none
  | mbc1 (m : Mbc1)
  | mbc2 (m : BankRegs)
  | mbc3 (m : Mbc3)
  | mbc5 (m : Mbc5)
  | mbc6 (m : BankRegs)
  | mbc7 (m : Mbc7)
  | mmm01 (m : BankRegs)
  | rumble (m : BankRegs)
  | camera (m : BankRegs)
  | supplied (kind : MapperKind) (m : BankRegs)
  deriving DecidableEq, Repr, Inhabited

/-- `ppu` (R54): what the block reads of it, its own state with the clocks to its next IF setting, the clocks to its next
mode-0 entry (R432), and which half of a double-speed clock is due (R436). -/
structure Ppu where
  view : PpuView
  own : CollabCore
  hblankIn : Option Nat
  halfClock : Bool
  deriving DecidableEq, Repr, Inhabited

/-- `camera` (R54, R446): its own state and the sensor frame buffer. -/
structure Camera where
  own : CollabCore
  frame : List Byte
  deriving DecidableEq, Repr, Inhabited

/-- The kinds of anomaly (R490), with the causes that are logged once. -/
inductive AnomalyKind where
  | config | bus | unsupportedMbc6 | unsupportedCameraFilter | resourceSerial | resourceCamera
  deriving DecidableEq, Repr, Inhabited

/-- The direction of an access in an anomaly record (R491). -/
inductive AccessDir where
  | read | write
  deriving DecidableEq, Repr, Inhabited

/-- An anomaly record (R491): kind, the address and direction of a BUS case, `cpu.pc`, the mapper's ROM bank. -/
structure Anomaly where
  kind : AnomalyKind
  access : Option (Addr × AccessDir)
  pc : Addr
  romBank : Nat
  deriving DecidableEq, Repr, Inhabited

/-- What the cartridge loader supplies (R460). -/
structure Cartridge where
  rom : List Host.Cell
  romBanks : Nat
  eramBanks : Nat
  saveRam : List Host.Cell
  rtc : Option Rtc
  deriving DecidableEq, Repr, Inhabited

/-- One interaction of the host (R408): a command word, a cartridge, a boot ROM image, the joypad lines (R447), taking
the audio samples (R441), taking a save. -/
inductive HostInput where
  | command (w : Word)
  | cartridge (c : Cartridge)
  | bootImage (cells : List Host.Cell)
  | joypad (keys : Byte)
  | takeAudio
  | save
  deriving DecidableEq, Repr, Inhabited

/-- The block state (R30), with the queue of host interactions, the response port and the model's own counters. -/
structure State where
  params : Params
  -- clock domain, R33 to R37
  ref : Nat
  last : Lasts
  segTarget : Int
  debt : Int
  burstStart : Nat
  horizon : Nat
  phase : Phase
  epoch : Nat
  -- flags and dispatch, R38 to R42, R433
  breakFlag : Bool
  bootEnabled : Bool
  family : Family
  dispatchSet : DispatchSet
  renderer : Renderer
  doubleSpeed : Bool
  key1Prepare : Bool
  -- interrupt state and CPU context, R43 to R45, R52
  ieReg : Byte
  ifReg : Byte
  ime : Bool
  haltMode : HaltMode
  cpuPc : Addr
  cpuSp : Addr
  -- timer and DMA, R46 to R48
  timer : Timer
  odma : Odma
  hdma : Hdma
  -- memory, R49 to R51, R58
  rom : Mem
  eram : Mem
  vram : Mem
  wram : Mem
  oam : Mem
  hram : Mem
  ioShadow : Mem
  bootRom : Mem
  bootImage : Mem
  vbk : BitVec 1
  svbk : BitVec 3
  mapper : Mapper
  cartRtc : Rtc
  -- collaborators, R54
  ppu : Ppu
  sound : CollabCore
  serial : CollabCore
  camera : Camera
  joypad : List Byte
  -- bookkeeping, R55; `runStart` is how long the log was when the run began (R409, R491)
  fault : Option Fault
  anomalies : List Anomaly
  runStart : Nat
  refused : Bool
  -- the model's own fields
  inputs : List HostInput
  response : Option Response
  cpuTape : List (List Word)
  cpuCore : List Byte
  cpuReplies : List Response
  draws : Nat
  deriving DecidableEq, Repr

/-- The parameters at reset: the defaults of the spec's list of open parameters, the free constants where it gives
none, and a cartridge of two ROM banks without RAM (log 8, log 9). -/
def initialParams : Params where
  hwModel := .dmg
  cgbMode := false
  bootRomPresent := false
  overlayExtra := []
  strictVram := Config.strictVram
  blockWrites := false
  oamDmaBusConflict := false
  romBanks := 2
  eramBanks := 0
  gdmaBlockSingle := Config.gdmaBlockClocks false
  gdmaBlockDouble := Config.gdmaBlockClocks true
  hdmaPrepClocks := Config.hdmaPrepClocks
  timaWriteInReload := Config.timaWriteInReload
  tacGlitch := .fallingEdge
  haltWakeExtra := 0
  haltGranule := 4
  stopExit := .joypadPending
  speedSwitch := .onStop
  speedSwitchClocks := 0
  rtcSource := Config.rtcSource
  hasPpu := false
  hasSound := false
  hasSerial := false
  hasCamera := false
  hasJoypad := false
  mapperSupplied := false
  serialPartner := false
  cameraDevice := false
  claimsDmg := []
  claimsCgb := []

/-- An array with nothing listed in filling 0. -/
def Mem.blank : Mem := { gen := 0, cells := [] }

/-- A collaborator without a core and without a pending transition: the absent model's state (log 34). -/
def idleCore : CollabCore := { core := [], wait := none }

/-- The absent PPU: mode 0, line 0, screen off (fixture F0, log 34). -/
def idlePpu : Ppu := { view := { mode := .m0, ly := 0, lcdOn := false }, own := idleCore, hblankIn := none, halfClock := false }

/-- The machine right after reset (R520, R521), every draw at 0 (log 6, log 7). -/
def State.reset : State where
  params := initialParams
  ref := 0
  last := { timer := 0, serial := 0, ppu := 0, sound := 0, dma := 0, camera := 0 }
  segTarget := 0
  debt := 0
  burstStart := 0
  horizon := inf
  phase := .idle
  epoch := 0
  breakFlag := false
  bootEnabled := false
  family := .dmg
  dispatchSet := .dmgNoboot
  renderer := .dmg
  doubleSpeed := false
  key1Prepare := false
  ieReg := 0
  ifReg := 0
  ime := false
  haltMode := .run
  cpuPc := 0x0100
  cpuSp := 0
  timer := { sysClocks := 0, tima := 0, tma := 0, tac := 0, reloadCd := 0, irqCd := 0 }
  odma := { active := false, src := 0, elapsed := 0, copied := 0, reg := 0 }
  hdma := { mode := .none, remaining := 0, prepLeft := 0, copyLeft := 0, src := 0, dst := 0, lastLy := none,
            srcReg := 0, dstReg := 0, stall := 0 }
  rom := .blank
  eram := .blank
  vram := .blank
  wram := .blank
  oam := .blank
  hram := .blank
  ioShadow := .blank
  bootRom := .blank
  bootImage := .blank
  vbk := 0
  svbk := 0
  mapper := .none
  cartRtc := .zero
  ppu := idlePpu
  sound := idleCore
  serial := idleCore
  camera := { own := idleCore, frame := [] }
  joypad := []
  fault := none
  anomalies := []
  runStart := 0
  refused := false
  inputs := []
  response := none
  cpuTape := []
  cpuCore := []
  cpuReplies := []
  draws := 0

end Sys2Proof.Machine
end

