-- ==== Sys2Proof/Machine/Prim.lean ====
section
/-! DEFINITION. The primitives every rule is written over (R12): byte arrays, draws, faults, anomalies, the clock,
the response port. -/

namespace Sys2Proof.Machine

/-! ## Byte arrays in canonical form -/

/-- What an unlisted address reads as: 0x00 in filling 0 (nothing drawn yet, log 7, log 8), a free byte in every
later filling (R400: "every byte … <- draw()"). -/
def Mem.fill (m : Mem) (a : Nat) : Byte := if m.gen = 0 then 0 else Config.ramDraw m.gen a

/-- The byte listed for an address, if any. -/
def cellLookup (a : Nat) : List Host.Cell → Option Byte
  | [] => none
  | (k, v) :: rest => if k = a then some v else cellLookup a rest

/-- List `v` at address `a`, keeping addresses rising. -/
def cellInsert (a : Nat) (v : Byte) : List Host.Cell → List Host.Cell
  | [] => [(a, v)]
  | (k, w) :: rest =>
    if a < k then (a, v) :: (k, w) :: rest
    else if a = k then (a, v) :: rest
    else (k, w) :: cellInsert a v rest

/-- Remove the entry of address `a`, if any. -/
def cellErase (a : Nat) : List Host.Cell → List Host.Cell
  | [] => []
  | (k, w) :: rest => if k = a then rest else (k, w) :: cellErase a rest

/-- Read one byte. -/
def Mem.read (m : Mem) (a : Nat) : Byte := (cellLookup a m.cells).getD (m.fill a)

/-- Write one byte, keeping the canonical form. -/
def Mem.write (m : Mem) (a : Nat) (v : Byte) : Mem :=
  if v = m.fill a then { m with cells := cellErase a m.cells } else { m with cells := cellInsert a v m.cells }

/-- Write consecutive bytes from address `a` on. -/
def Mem.writeList (m : Mem) (a : Nat) : List Byte → Mem
  | [] => m
  | v :: rest => (m.write a v).writeList (a + 1) rest

/-- An array in filling `gen` holding the given cells. -/
def Mem.ofCells (gen : Nat) (cells : List Host.Cell) : Mem :=
  cells.foldl (fun m c => m.write c.1 c.2) { gen := gen, cells := [] }

/-- Every listed address is at least `lo`, and addresses rise strictly. -/
def cellsRise (lo : Nat) : List Host.Cell → Bool
  | [] => true
  | (k, _) :: rest => decide (lo ≤ k) && cellsRise (k + 1) rest

/-- The canonical form: addresses strictly rising, no entry equal to what an unlisted address reads as. -/
def Mem.wf (m : Mem) : Bool := cellsRise 0 m.cells && m.cells.all (fun c => c.2 != m.fill c.1)

/-! ## Draws -/

/-- `draw()` (R12): the next free byte. -/
def drawByte (s : State) : Byte × State := (Config.draw s.draws, { s with draws := s.draws + 1 })

/-- A 16-bit value under no law, from two draws. -/
def drawAddr (s : State) : Addr × State :=
  (Config.draw s.draws ++ Config.draw (s.draws + 1), { s with draws := s.draws + 2 })

/-- A byte array whose every byte is a draw (R400): a filling that no array has had. -/
def drawMem (s : State) : Mem × State :=
  ({ gen := s.draws + 1, cells := [] }, { s with draws := s.draws + 1 })

/-! ## Faults, sequencing, the response port -/

/-- `raise Fault(code)` (R495): the first fault is kept. -/
def raise (f : Fault) (s : State) : State :=
  match s.fault with
  | none => { s with fault := some f }
  | some _ => s

/-- Go on with `f` unless a fault stands: "the raising command has no further effect" (R495). -/
def unlessFaulted (s : State) (f : State → State) : State :=
  match s.fault with
  | none => f s
  | some _ => s

/-- Put a value on the response port (R149), unless the command raised a fault. -/
def respond (r : Response) (s : State) : State := unlessFaulted s fun s => { s with response := some r }

/-- Run a command's rule: a faulted state is left unchanged (R495). The spec does not say whether a command issued while an
earlier fault stands still answers: here it leaves the response port empty (DESIGN CHOICE, log 2). -/
def command (f : State → State) (s : State) : State :=
  unlessFaulted { s with response := none } f

/-- `ref <- ref + n`, or F_CLOCK_OVERFLOW where `ref` would leave its range (R241, D4). -/
def addClock (n : Nat) (s : State) : State :=
  if s.ref + n > inf then raise .clockOverflow s else { s with ref := s.ref + n }

/-! ## The lagging counters -/

/-- `last[sub]` (R34). -/
def Lasts.get (l : Lasts) : Subsystem → Nat
  | .timer => l.timer
  | .serial => l.serial
  | .ppu => l.ppu
  | .sound => l.sound
  | .dma => l.dma
  | .camera => l.camera

/-- `last[sub] <- r`. -/
def Lasts.set (l : Lasts) (sub : Subsystem) (r : Nat) : Lasts :=
  match sub with
  | .timer => { l with timer := r }
  | .serial => { l with serial := r }
  | .ppu => { l with ppu := r }
  | .sound => { l with sound := r }
  | .dma => { l with dma := r }
  | .camera => { l with camera := r }

/-- `last[sub] <- r` in the block state. -/
def setLast (sub : Subsystem) (r : Nat) (s : State) : State := { s with last := s.last.set sub r }

/-- The least of the six counters (R284). -/
def Lasts.least (l : Lasts) : Nat := min l.timer (min l.ppu (min l.serial (min l.dma (min l.sound l.camera))))

/-- The six subsystems in the order of R284. -/
def lockOrder : List Subsystem := [.timer, .ppu, .serial, .dma, .sound, .camera]

end Sys2Proof.Machine
end

