-- ==== Sys2Proof/Machine/Operands.lean ====
section
/-! DEFINITION. Operand forms: hardware-model ids, the region and the register an address names, the `io_shadow` bytes of
a collaborator's addresses, banks. -/

namespace Sys2Proof.Machine

/-- Hardware-model ids of POWERON (R143); 6 and 7 are unrecognized. -/
def hwModelOfId (m : BitVec 3) : Option HwModel :=
  match m.toNat with
  | 0 => some .dmg
  | 1 => some .mgb
  | 2 => some .sgb
  | 3 => some .sgb2
  | 4 => some .cgb
  | 5 => some .agb
  | _ => none

/-- CGB or AGB hardware (R40, R402). -/
def isColorModel : HwModel → Bool
  | .cgb | .agb => true
  | .dmg | .mgb | .sgb | .sgb2 => false

/-- The regions of R90, with 0xFF80-0xFFFF split by R92. -/
inductive Region where
  | rom0 | romX | vram | eram | wram | echo | oam | unusable | io | hram | ie
  deriving DecidableEq, Repr

/-- The two-level decode (R91): bits 15:12 first, then the full address inside 0xE000-0xFFFF. -/
def regionOf (a : Addr) : Region :=
  match (a.extractLsb' 12 4).toNat with
  | 0x0 | 0x1 | 0x2 | 0x3 => .rom0
  | 0x4 | 0x5 | 0x6 | 0x7 => .romX
  | 0x8 | 0x9 => .vram
  | 0xA | 0xB => .eram
  | 0xC | 0xD => .wram
  | _ =>
    if a.toNat ≤ 0xFDFF then .echo
    else if a.toNat ≤ 0xFE9F then .oam
    else if a.toNat ≤ 0xFEFF then .unusable
    else if a.toNat ≤ 0xFF7F then .io
    else if a.toNat ≤ 0xFFFE then .hram
    else .ie

/-- The I/O register an address names (R56, R57, R190). -/
inductive IoReg where
  | div | tima | tma | tac | ifReg | dma | boot | ie
  | key1 | vbk | hdma1 | hdma2 | hdma3 | hdma4 | hdma5 | svbk
  | collab (c : Collab)
  | unrecognized
  deriving DecidableEq, Repr

/-- The collaborator a `claims` list gives an address to (R57). -/
def claimed (claims : List (Addr × Collab)) (a : Addr) : IoReg :=
  match claims.find? (fun c => c.1 == a) with
  | some c => .collab c.2
  | none => .unrecognized

/-- The register of an address both families have (R56, R57). -/
def ioRegCommon (a : Nat) : Option IoReg :=
  if a = 0xFF04 then some .div
  else if a = 0xFF05 then some .tima
  else if a = 0xFF06 then some .tma
  else if a = 0xFF07 then some .tac
  else if a = 0xFF0F then some .ifReg
  else if a = 0xFF46 then some .dma
  else if a = 0xFF50 then some .boot
  else if a = 0xFFFF then some .ie
  else if a = 0xFF00 then some (.collab .joypad)
  else if 0xFF01 ≤ a ∧ a ≤ 0xFF02 then some (.collab .serial)
  else if (0xFF10 ≤ a ∧ a ≤ 0xFF26) ∨ (0xFF30 ≤ a ∧ a ≤ 0xFF3F) then some (.collab .sound)
  else if (0xFF40 ≤ a ∧ a ≤ 0xFF45) ∨ (0xFF47 ≤ a ∧ a ≤ 0xFF4B) then some (.collab .ppu)
  else none

/-- The register of an address only the CGB family has (R56, R57). -/
def ioRegCgb (a : Nat) : Option IoReg :=
  if a = 0xFF4D then some .key1
  else if a = 0xFF4F then some .vbk
  else if a = 0xFF51 then some .hdma1
  else if a = 0xFF52 then some .hdma2
  else if a = 0xFF53 then some .hdma3
  else if a = 0xFF54 then some .hdma4
  else if a = 0xFF55 then some .hdma5
  else if a = 0xFF70 then some .svbk
  else if 0xFF68 ≤ a ∧ a ≤ 0xFF6B then some (.collab .ppu)
  else none

/-- The register an address of the I/O page (or 0xFFFF) names in this state's family (R190, R193). A `claims` list gives
only addresses R56 and R57 give nobody; on the DMG family an address of the CGB family alone is unrecognized whatever
`claims(DMG)` lists, as R56, R176 and R193 say without exception (DEDUCED, log 29). -/
def ioRegOf (s : State) (a : Addr) : IoReg :=
  match ioRegCommon a.toNat with
  | some r => r
  | none =>
    match s.family, ioRegCgb a.toNat with
    | .dmg, none => claimed s.params.claimsDmg a
    | .dmg, some _ => .unrecognized
    | .cgb, none => claimed s.params.claimsCgb a
    | .cgb, some r => r

/-! ## The `io_shadow` bytes of a collaborator's addresses -/

/-- The offset of an I/O address in `io_shadow` (R58). -/
def shadowIndex (a : Addr) : Nat := a.toNat - 0xFF00

/-- Whether a collaborator owns an address of the I/O page in this state's family (R57). -/
def ownsIo (s : State) (c : Collab) (a : Addr) : Bool :=
  decide (0xFF00 ≤ a.toNat ∧ a.toNat ≤ 0xFF7F) && ioRegOf s a == .collab c

/-- What a collaborator's register handlers see of `io_shadow`: the bytes of the addresses it owns, 0 for any other (R58). -/
def ownShadow (c : Collab) (s : State) (a : Addr) : Byte :=
  if ownsIo s c a then s.ioShadow.read (shadowIndex a) else 0

/-- `io_shadow` after a handler keeps bytes there: those of the addresses the collaborator owns, of two for one address the
later; bytes for other addresses are dropped (R58). -/
def keptShadow (s : State) (c : Collab) : List (Addr × Byte) → Mem → Mem
  | [], m => m
  | b :: rest, m => keptShadow s c rest (if ownsIo s c b.1 then m.write (shadowIndex b.1) b.2 else m)

/-- A register handler keeps bytes in `io_shadow` (R58). -/
def keepShadow (c : Collab) (bytes : List (Addr × Byte)) (s : State) : State :=
  { s with ioShadow := keptShadow s c bytes s.ioShadow }

/-! ## Banks and timings -/

/-- The VRAM bank in use (R95, R104): VBK on the CGB family, 0 otherwise. -/
def vramBank (s : State) : Nat :=
  match s.family with
  | .cgb => s.vbk.toNat
  | .dmg => 0

/-- The work-RAM bank at 0xD000-0xDFFF (R97): max(1, SVBK) on the CGB family, 1 otherwise. -/
def wramBank (s : State) : Nat :=
  match s.family with
  | .cgb => max 1 s.svbk.toNat
  | .dmg => 1

/-- Where in `vram` a bus address or a DMA destination offset lies: `vram[bank][off]`. -/
def vramIndex (bank off : Nat) : Nat := bank * 0x2000 + off

/-- Where in `wram` an address in 0xC000-0xDFFF lies (R97). -/
def wramIndex (s : State) (a : Nat) : Nat :=
  if a < 0xD000 then a - 0xC000 else wramBank s * 0x1000 + (a - 0xD000)

/-- Where in `rom` bank `b` offset `off` lies (16 KiB a bank, R49). -/
def romIndex (b off : Nat) : Nat := b * 0x4000 + off

/-- Where in `eram` bank `b` offset `off` lies (8 KiB a bank, R49). -/
def eramIndex (b off : Nat) : Nat := b * 0x2000 + off

/-- Whether an address is covered by the boot overlay while it is enabled (R93). -/
def overlaid (s : State) (a : Nat) : Bool :=
  decide (a ≤ 0x00FF) ||
    s.params.overlayExtra.any (fun r => r.model == s.params.hwModel && decide (r.first ≤ a ∧ a ≤ r.last))

/-- `GDMA_BLOCK_CLOCKS(double_speed)` (R370). -/
def gdmaBlockClocks (s : State) : Nat :=
  if s.doubleSpeed then s.params.gdmaBlockDouble else s.params.gdmaBlockSingle

/-- `roundup(r, g)` (R253): the least multiple of `g` from `r` up; `r` itself where `g` is 0 (log 21). -/
def roundup (r g : Nat) : Nat := if g = 0 then r else (r + (g - 1)) / g * g

end Sys2Proof.Machine
end

