-- ==== Sys2Proof/Machine/Flags.lean ====
section
/-! DEFINITION. The block's flags: the break flag, the boot flag and the dispatch set, the interrupt bits, and the
anomaly log. -/

namespace Sys2Proof.Config

/-- `STOP_EXIT` as a free predicate of what a collaborator may see of the block (R481, D40; `collabView`), the state that
advances every clock included (DESIGN CHOICE, log 9). -/
opaque stopExit : Machine.State → Bool

end Sys2Proof.Config

namespace Sys2Proof.Machine

/-- `sel(family, boot_enabled)` (R41). -/
def sel (f : Family) (boot : Bool) : DispatchSet :=
  match f, boot with
  | .dmg, true => .dmgBoot
  | .dmg, false => .dmgNoboot
  | .cgb, true => .cgbBoot
  | .cgb, false => .cgbNoboot

/-- Whether a write to an address sets the break flag (R175): the I/O page 0xFF00-0xFF7F, or 0xFFFF. -/
def breaksBurst (a : Addr) : Bool := decide (0xFF00 ≤ a.toNat ∧ a.toNat ≤ 0xFF7F) || a == 0xFFFF#16

/-- The break after a write to `a` (R175). -/
def markBreak (a : Addr) (s : State) : State := if breaksBurst a then { s with breakFlag := true } else s

/-- The bit of an interrupt source (R471). -/
def sourceBit (i : Nat) : Byte := BitVec.ofNat 8 (2 ^ i)

/-- `IF[i] <- 1` (R472). -/
def raiseIrq (i : Nat) (s : State) : State := { s with ifReg := s.ifReg ||| sourceBit i }

/-- `IF[i] <- 0` (R477). -/
def clearIrq (i : Nat) (s : State) : State := { s with ifReg := s.ifReg &&& ~~~(sourceBit i) }

/-- `IF & IE & 0x1F` (R475). -/
def pendingIrqs (s : State) : Byte := s.ifReg &&& s.ieReg &&& 0x1F

/-- The index of the lowest set bit among bits 4:0: the priority order VBlank, STAT, Timer, Serial, Joypad (R476). -/
def lowestSource (p : Byte) : Nat :=
  if p.getLsbD 0 then 0
  else if p.getLsbD 1 then 1
  else if p.getLsbD 2 then 2
  else if p.getLsbD 3 then 3
  else 4

/-- The vector of source `i`, `0x0040 + 8 × i` (R471). -/
def vectorOf (i : Nat) : Addr := BitVec.ofNat 16 (0x0040 + 8 * i)

/-- What a supplied predicate or reset may see of the block: not the anomaly log, which no rule reads (R491), not the
refusal mark, which has no effect (R497), and not the model's own queue, port and executor (logs 1, 2, 10). -/
def collabView (s : State) : State :=
  { s with
    anomalies := [], runStart := 0, refused := false, inputs := [], response := none
    cpuTape := [], cpuCore := [], cpuReplies := [] }

/-- `STOP_EXIT(s)` (R481): by default IF[4] = 1, which no advance before `Next_sub` changes (R287). The spec leaves open whether
a supplied predicate is bound by R287, which lets no such advance change an input of the wake logic: here it is not, so one
that reads state that advances every clock (sys_clocks, the PPU's core) may come to hold inside the horizon, and STOP then
ends at the next IRQCHK only (DESIGN CHOICE, log 9). -/
def stopExit (s : State) : Bool :=
  match s.params.stopExit with
  | .joypadPending => s.ifReg.getLsbD 4
  | .supplied => Config.stopExit (collabView s)

/-- Whether a collaborator model is supplied (R192, D49). -/
def present (s : State) : Collab → Bool
  | .ppu => s.params.hasPpu
  | .sound => s.params.hasSound
  | .serial => s.params.hasSerial
  | .camera => s.params.hasCamera
  | .joypad => s.params.hasJoypad

/-- `sel` is recomputed only at POWERON and at a write to 0xFF50 (R177). -/
def selectDispatch (s : State) : State := { s with dispatchSet := sel s.family s.bootEnabled }

/-- The renderer selected at POWERON (R433). -/
def rendererFor (hw : HwModel) (cgb : Bool) (f : Family) : Renderer :=
  match f with
  | .cgb => .cgb
  | .dmg => if isColorModel hw && !cgb then .cgbCompat else .dmg

end Sys2Proof.Machine
end

