-- ==== Sys2Proof/Machine/Mapper.lean ====
section
/-! DEFINITION. The cartridge mapper: its interface R450, the default layouts R451-R453, the MBC3 clock R454, the
MBC7 EEPROM R455, the kinds whose layout the source does not give (R456, R457), a supplied mapper model (R9, R451), the
camera's registers in the mapper window (R446), and the anomaly log, whose records hold the mapper's ROM bank (R491). -/

namespace Sys2Proof

/-! ## The registers of the MBC3 real-time clock -/

/-- One more second on a running clock: seconds, minutes, hours, days, carry (R454, log 18). The spec is silent on values
outside the ranges: all 8 bits of seconds, minutes and hours are kept as written or loaded, and a value above 59, 59 or 23
counts on to 255 and from there to 0 without a carry (DESIGN CHOICE, log 18). -/
def Rtc.tick (r : Rtc) : Rtc :=
  if r.halt then r
  else if r.seconds ≠ 59 then { r with seconds := r.seconds + 1 }
  else if r.minutes ≠ 59 then { r with seconds := 0, minutes := r.minutes + 1 }
  else if r.hours ≠ 23 then { r with seconds := 0, minutes := 0, hours := r.hours + 1 }
  else { r with seconds := 0, minutes := 0, hours := 0, days := r.days + 1, carry := r.carry || r.days == 511 }

/-- `n` seconds on a running clock. -/
def Rtc.advance : Nat → Rtc → Rtc
  | 0, r => r
  | n + 1, r => Rtc.advance n r.tick

/-- The byte an RTC select value 0x8-0xC reads (log 18). -/
def Rtc.read (r : Rtc) (sel : Nat) : Byte :=
  if sel = 0x8 then r.seconds
  else if sel = 0x9 then r.minutes
  else if sel = 0xA then r.hours
  else if sel = 0xB then r.days.extractLsb' 0 8
  else BitVec.ofBool r.carry ++ BitVec.ofBool r.halt ++ (0 : BitVec 5) ++ r.days.extractLsb' 8 1

/-- A byte written to the RTC register of a select value (log 18). -/
def Rtc.write (r : Rtc) (sel : Nat) (v : Byte) : Rtc :=
  if sel = 0x8 then { r with seconds := v }
  else if sel = 0x9 then { r with minutes := v }
  else if sel = 0xA then { r with hours := v }
  else if sel = 0xB then { r with days := r.days.extractLsb' 8 1 ++ v }
  else { r with days := v.extractLsb' 0 1 ++ r.days.extractLsb' 0 8, halt := v.getLsbD 6, carry := v.getLsbD 7 }

/-- The command the 2-bit code selects, once it is received (R455). -/
def Eeprom.command (e : Eeprom) : Option EepromCommand := e.code.map Config.mbc7Command

end Sys2Proof

namespace Sys2Proof.Machine

/-- MAPPER_KIND: the tag of the union (R51). -/
def Mapper.kind : Mapper → MapperKind
  | .none => .none
  | .mbc1 _ => .mbc1
  | .mbc2 _ => .mbc2
  | .mbc3 _ => .mbc3
  | .mbc5 _ => .mbc5
  | .mbc6 _ => .mbc6
  | .mbc7 _ => .mbc7
  | .mmm01 _ => .mmm01
  | .rumble _ => .rumble
  | .camera _ => .camera
  | .supplied k _ => k

/-! ## Bank selection -/

/-- The bank a value `b` selects (R452): `b & (ROM_BANKS - 1)`, bank 0 replaced by bank 1 where the variant forbids
bank 0. -/
def selectBank (romBanks b : Nat) (forbidsZero : Bool) : Nat :=
  let bank := b &&& (romBanks - 1)
  if forbidsZero && bank == 0 then 1 else bank

/-- `ROM_Curr`: the bank at 0x4000-0x7FFF (R94, R451-R453). Right after MAPPERSET on an MBC5 with ROM_BANKS = 1, R451's "so
`ROM_Curr = 1`" and R452's mask of the bank register 1 disagree: the mask is applied, which gives bank 0 (DEDUCED, log
17). -/
def romCurr (s : State) : Nat :=
  match s.mapper with
  | .none => 1
  | .mbc1 m =>
    if m.upper = 0 then selectBank s.params.romBanks m.bank.toNat true
    else Config.mbc1RomBank m.bank m.upper m.mode s.params.romBanks
  | .mbc3 m => selectBank s.params.romBanks m.bank.toNat true
  | .mbc5 m => selectBank s.params.romBanks m.bank.toNat false
  | .mbc7 m => m.banks.romBank
  | .mbc2 m | .mbc6 m | .mmm01 m | .rumble m | .camera m | .supplied _ m => m.romBank

/-- The bank at 0x0000-0x3FFF (R453): 0 in the default layouts. R453 leaves MBC1's mode 1 to the collaborator: with the upper
bits 0 it shows bank 0 too, otherwise a free bank (DESIGN CHOICE, log 17). -/
def romLow (s : State) : Nat :=
  match s.mapper with
  | .mbc1 m => if m.mode && m.upper != 0 then Config.mbc1LowBank m.upper s.params.romBanks else 0
  | .none | .mbc3 _ | .mbc5 _ => 0
  | .mbc7 m => m.banks.lowBank
  | .mbc2 m | .mbc6 m | .mmm01 m | .rumble m | .camera m | .supplied _ m => m.lowBank

/-! ## The anomaly log -/

/-- `log Anomaly(kind)` (R491): a record with the PC and bank context; the log is write-only. -/
def logAnomaly (k : AnomalyKind) (access : Option (Addr × AccessDir)) (s : State) : State :=
  { s with anomalies := s.anomalies ++ [{ kind := k, access := access, pc := s.cpuPc, romBank := romCurr s }] }

/-- The records of the run under way: those logged since the last POWERON began (R409, R491). -/
def runLog (s : State) : List Anomaly := s.anomalies.drop s.runStart

/-- An UNSUPPORTED anomaly is recorded once per cause per run (R490, R491). -/
def logOnce (k : AnomalyKind) (s : State) : State :=
  if (runLog s).any (fun a => a.kind == k) then s else logAnomaly k none s

/-! ## The MBC3 real-time clock -/

/-- Clocks the reference clock has counted over all segments (R250, log 27). -/
def clockTotal (s : State) : Nat := s.epoch + s.ref

/-- What a supplied mapper model knows beside its registers where it is written, bound or saved (R450, R454). -/
def mapperContext (s : State) : MapperContext :=
  { romBanks := s.params.romBanks, eramBanks := s.params.eramBanks, clock := clockTotal s }

/-- The running clock at the current reference clock (R454): under EMULATED it has advanced with the clock. -/
def rtcNow (s : State) (m : Mbc3) : Rtc :=
  match s.params.rtcSource with
  | .host => m.running
  | .emulated => Rtc.advance (Config.rtcSeconds (clockTotal s) - Config.rtcSeconds m.since) m.running

/-- The five register bytes of an RTC whose time comes from the host: one draw each (R454, D56). -/
def drawRtc (s : State) : Rtc × State :=
  let b0 := drawByte s
  let b1 := drawByte b0.2
  let b2 := drawByte b1.2
  let b3 := drawByte b2.2
  let b4 := drawByte b3.2
  (((((Rtc.zero.write 0x8 b0.1).write 0x9 b1.1).write 0xA b2.1).write 0xB b3.1).write 0xC b4.1, b4.2)

/-- The latching edge (R454): the latched copy takes the running registers. -/
def latchRtc (s : State) (m : Mbc3) : State :=
  match s.params.rtcSource with
  | .host =>
    let d := drawRtc s
    { d.2 with mapper := .mbc3 { m with latchArmed := false, latched := d.1 } }
  | .emulated =>
    let now := rtcNow s m
    { s with mapper := .mbc3 { m with latchArmed := false, running := now, latched := now, since := clockTotal s } }

/-! ## The MBC7 EEPROM -/

/-- An EEPROM cell: the last value committed to it, or what it held before (R455). -/
def Mbc7.cell (m : Mbc7) (a : Nat) : Nat :=
  match m.cells.find? (fun c => c.1 == a) with
  | some c => c.2
  | none => Config.mbc7Cell a

/-- Commit a value to an EEPROM cell (R455). -/
def Mbc7.commit (m : Mbc7) (a w : Nat) : Mbc7 := { m with cells := (a, w) :: m.cells.filter (fun c => c.1 != a) }

/-- An edge the source does not list (R455): free, but for the stored pin levels, which are always the pins'. -/
def Mbc7.otherEdge (m : Mbc7) (p : EepromPins) : Mbc7 :=
  let x := Config.mbc7Other m.eeprom.command m.eeprom p m.cell
  x.cells.foldl (fun m c => m.commit c.1 c.2)
    { m with eeprom := { phase := x.phase, cs := p.cs, sk := p.sk, code := x.code, address := x.address
                         pending := x.pending, core := x.core } }

/-- The transition a write to 0xA080 makes, given the pins it drives (R455): a rising CS edge in the
shift-out-complete state commits the pending write; a rising SK edge while idle with the data bit set begins a command;
without an edge nothing changes; every other edge is not in the source. The shift-out-complete state is DONE, and the
rising CS edge there leads to IDLE, also where no write is pending, so that nothing is committed (DESIGN CHOICE, log 19).
R455 gives no order to the edges of one byte that moves both CS and SK: here the rising CS edge in DONE, and the rising SK
edge in IDLE with the data bit set, act alone, and the other pin's edge in the same byte has no effect but on its stored
level (DESIGN CHOICE, log 19). -/
def Mbc7.pins (m : Mbc7) (p : EepromPins) : Mbc7 :=
  let e := m.eeprom
  if p.cs && !e.cs && e.phase == .done then
    let m1 := { m with eeprom := { e with cs := true, sk := p.sk, phase := .idle, pending := none } }
    match e.pending with
    | some w => m1.commit e.address w
    | none => m1
  else if p.sk && !e.sk && e.phase == .idle && p.dataIn then
    { m with eeprom := { e with cs := p.cs, sk := true, phase := .receiveCommand, code := none } }
  else if p.cs == e.cs && p.sk == e.sk then m
  else m.otherEdge p

/-- A write to 0xA080 (R455). -/
def Mbc7.pinWrite (m : Mbc7) (v : Byte) : Mbc7 := m.pins (Config.mbc7Pins v)

/-! ## External RAM -/

/-- The RAM bank an access to 0xA000-0xBFFF uses, or none when RAM is disabled (R450, R451, R453). An MBC3 whose
select is above 3 has no RAM bank there; at 0x4-0x7 and 0xD-0xF, which R451 gives no meaning, it has nothing there
(DEDUCED, log 18). -/
def ramBank (s : State) : Option Nat :=
  match s.mapper with
  | .none => some 0
  | .mbc1 m => if m.ramEnabled then some (if m.mode then m.upper.toNat else 0) else none
  | .mbc3 m => if m.ramEnabled && decide (m.select.toNat ≤ 3) then some m.select.toNat else none
  | .mbc5 m => if m.ramEnabled then some m.ramBank.toNat else none
  | .mbc7 m => if m.banks.ramEnabled then some m.banks.ramBank else none
  | .mbc2 m | .mbc6 m | .mmm01 m | .rumble m | .camera m | .supplied _ m =>
    if m.ramEnabled then some m.ramBank else none

/-- Where in `eram` an access to `a` lies, or none when RAM is disabled or the bank is absent (R450). -/
def eramSlot (s : State) (a : Nat) : Option Nat :=
  match ramBank s with
  | some b => if b < s.params.eramBanks then some (eramIndex b (a - 0xA000)) else none
  | none => none

/-- A 4-bit mapper (R450): MBC2. -/
def Mapper.fourBit (m : Mapper) : Bool := m.kind == .mbc2

/-- External RAM read (R450): 0xFF when disabled or absent, the low nibble under 0xF0 for a 4-bit mapper. -/
def eramRead (s : State) (a : Nat) : Byte :=
  match eramSlot s a with
  | some i => if s.mapper.fourBit then 0xF0 ||| (s.eram.read i &&& 0x0F) else s.eram.read i
  | none => 0xFF

/-- External RAM write (R450): ignored when RAM is disabled or the bank absent. A 4-bit mapper stores the whole byte, and
its read masks it (DEDUCED, log 16). -/
def eramWrite (s : State) (a : Nat) (v : Byte) : State :=
  match eramSlot s a with
  | some i => { s with eram := s.eram.write i v }
  | none => s

/-! ## The interface of R450 -/

/-- A ROM byte; a bank the cartridge does not have reads a free byte (log 8). -/
def romRead (s : State) (bank off : Nat) : Byte × State :=
  if bank < s.params.romBanks then (s.rom.read (romIndex bank off), s) else drawByte s

/-- A read of the camera's registers in the mapper window (R446): the camera model's handler, with the `io_shadow` bytes of
the I/O addresses the camera claims (R58), without its side effect, since `Mapper.read` changes no state (R450); a draw
without a model (R192). -/
def cameraRead (a : Nat) (s : State) : Byte × State :=
  if s.params.hasCamera then (Config.collabRead .camera s.camera.own.core (ownShadow .camera s) (BitVec.ofNat 16 a), s)
  else drawByte s

/-- A write to the camera's registers in the mapper window (R446): the camera model's handler, which sees and keeps the
`io_shadow` bytes of the I/O addresses the camera claims (R58); ignored without a model (R192). -/
def cameraWrite (a : Nat) (v : Byte) (s : State) : State :=
  if s.params.hasCamera then
    let w := Config.collabWrite .camera s.camera.own (ownShadow .camera s) (BitVec.ofNat 16 a) v (s.family == .cgb) s.doubleSpeed
    keepShadow .camera w.shadow { s with camera := { s.camera with own := w.next } }
  else s

/-- Whether a Camera cartridge's bank registers put the camera's registers at an address of the window (R446): only while
RAM is enabled, which gates the whole window (R450). -/
def cameraAt (m : BankRegs) (a : Nat) : Bool := m.ramEnabled && Config.cameraWindow m (BitVec.ofNat 16 a)

/-- Whether the camera's registers stand at an address of 0xA000-0xBFFF (R446): on a Camera cartridge, where its bank
registers select them. -/
def cameraSelected (s : State) (a : Nat) : Bool :=
  match s.mapper with
  | .camera m => cameraAt m a
  | .supplied k m => k == .camera && cameraAt m a
  | .none | .mbc1 _ | .mbc2 _ | .mbc3 _ | .mbc5 _ | .mbc6 _ | .mbc7 _ | .mmm01 _ | .rumble _ => false

/-- The register of its own a supplied mapper model has at an address of 0xA000-0xBFFF, if any: none while RAM is disabled,
so that the window then reads 0xFF and ignores writes (R450). -/
def suppliedRegister (s : State) (k : MapperKind) (m : BankRegs) (a : Nat) : Option Byte :=
  if m.ramEnabled then Config.mapperWindow k m s.params.romBanks s.params.eramBanks (BitVec.ofNat 16 a) else none

/-- A read of 0xA000-0xBFFF (R96, R450): the register a mapper has there, else external RAM. -/
def windowRead (s : State) (a : Nat) : Byte × State :=
  if cameraSelected s a then cameraRead a s
  else
    match s.mapper with
    | .mbc3 m =>
      if m.ramEnabled && decide (0x8 ≤ m.select.toNat ∧ m.select.toNat ≤ 0xC) then (m.latched.read m.select.toNat, s)
      else (eramRead s a, s)
    | .mbc7 m =>
      if m.banks.ramEnabled then (Config.mbc7Read m.eeprom m.cell m.banks.core (BitVec.ofNat 16 a), s) else (0xFF, s)
    | .supplied k m => ((suppliedRegister s k m a).getD (eramRead s a), s)
    | .none | .mbc1 _ | .mbc2 _ | .mbc5 _ | .mbc6 _ | .mmm01 _ | .rumble _ | .camera _ => (eramRead s a, s)

/-- A read of the banks the mapper selects (R450). -/
def bankedRead (s : State) (a : Nat) : Byte × State :=
  if a < 0x4000 then romRead s (romLow s) a
  else if a < 0x8000 then romRead s (romCurr s) (a - 0x4000)
  else windowRead s a

/-- `Mapper.read(m, a)` for 0x0000-0x7FFF and 0xA000-0xBFFF (R450); MBC6 without a supplied layout reads draws (R457). -/
def mapperRead (s : State) (a : Nat) : Byte × State :=
  match s.mapper with
  | .mbc6 _ => drawByte s
  | .none | .mbc1 _ | .mbc2 _ | .mbc3 _ | .mbc5 _ | .mbc7 _ | .mmm01 _ | .rumble _ | .camera _ | .supplied _ _ =>
    bankedRead s a

/-- The RAM-enable value of the default layouts (R451): `v[3:0] = 0xA`. -/
def enablesRam (v : Byte) : Bool := v.extractLsb' 0 4 == 0xA#4

/-- MBC1 writes below 0x8000 (R451). Which bit of a byte written to 0x6000-0x7FFF is the mode is not in the spec; it is
bit 0 here (DESIGN CHOICE, log 17). -/
def Mbc1.write (m : Mbc1) (a : Nat) (v : Byte) : Mbc1 :=
  if a < 0x2000 then { m with ramEnabled := enablesRam v }
  else if a < 0x4000 then { m with bank := v.extractLsb' 0 5 }
  else if a < 0x6000 then { m with upper := v.extractLsb' 0 2 }
  else { m with mode := v.getLsbD 0 }

/-- MBC5 writes below 0x8000 (R451). R451 gives it no register at 0x6000-0x7FFF: nothing changes there (DEDUCED, log 17). -/
def Mbc5.write (m : Mbc5) (a : Nat) (v : Byte) : Mbc5 :=
  if a < 0x2000 then { m with ramEnabled := enablesRam v }
  else if a < 0x3000 then { m with bank := m.bank.extractLsb' 8 1 ++ v }
  else if a < 0x4000 then { m with bank := v.extractLsb' 0 1 ++ m.bank.extractLsb' 0 8 }
  else if a < 0x6000 then { m with ramBank := v.extractLsb' 0 4 }
  else m

/-- MBC3 writes below 0x8000 (R451, R454): 0x00 then 0x01 to 0x6000-0x7FFF latches the clock, the two written there one
right after the other (DEDUCED, log 18). -/
def mbc3Write (s : State) (m : Mbc3) (a : Nat) (v : Byte) : State :=
  if a < 0x2000 then { s with mapper := .mbc3 { m with ramEnabled := enablesRam v } }
  else if a < 0x4000 then { s with mapper := .mbc3 { m with bank := v.extractLsb' 0 7 } }
  else if a < 0x6000 then { s with mapper := .mbc3 { m with select := v.extractLsb' 0 4 } }
  else if m.latchArmed && v == 0x01 then latchRtc s m
  else { s with mapper := .mbc3 { m with latchArmed := v == 0x00 } }

/-- MBC3 writes to 0xA000-0xBFFF (R450): the selected RAM bank. The spec gives no write to a selected clock register (R454
gives only the read of the latched copy); here it writes the running register and counts on from the current clock (DESIGN
CHOICE, log 18). -/
def mbc3RamWrite (s : State) (m : Mbc3) (a : Nat) (v : Byte) : State :=
  if m.ramEnabled && decide (0x8 ≤ m.select.toNat ∧ m.select.toNat ≤ 0xC) then
    { s with mapper := .mbc3 { m with running := (rtcNow s m).write m.select.toNat v, since := clockTotal s } }
  else eramWrite s a v

/-- Drawn bytes for what comes to a mapper from outside: host time, sensor readings (R12, R454, R455). -/
def drawBytes : Nat → State → List Byte × State
  | 0, s => ([], s)
  | n + 1, s =>
    let rest := drawBytes n (drawByte s).2
    ((drawByte s).1 :: rest.1, rest.2)

/-- A write to a register of a supplied mapper model, with five drawn bytes for what comes from outside (R451, R454). -/
def suppliedWrite (s : State) (k : MapperKind) (m : BankRegs) (a : Nat) (v : Byte) : State :=
  let d := drawBytes 5 s
  let next := Config.mapperWrite k m (mapperContext s) d.1 (BitVec.ofNat 16 a) v
  { d.2 with mapper := .supplied k next }

/-- A write to the MBC7 window away from 0xA080 (R455): the accelerometer's, with two drawn 16-bit readings. -/
def sensorWrite (s : State) (m : Mbc7) (a : Nat) (v : Byte) : State :=
  let d := drawBytes 4 s
  let core := Config.mbc7Sensor m.banks.core d.1 (BitVec.ofNat 16 a) v
  { d.2 with mapper := .mbc7 { m with banks := { m.banks with core := core } } }

/-- A bank-select write to a kind without a layout in the source (R456). -/
def selectWrite (s : State) (m : BankRegs) (a : Nat) (v : Byte) : BankRegs :=
  Config.mapperSelect s.mapper.kind m s.params.romBanks s.params.eramBanks (BitVec.ofNat 16 a) v

/-- A write to 0x0000-0x7FFF (R103, R450): the mapper's bank registers. -/
def bankWrite (s : State) (a : Nat) (v : Byte) : State :=
  match s.mapper with
  | .none => s
  | .mbc1 m => { s with mapper := .mbc1 (m.write a v) }
  | .mbc2 m => { s with mapper := .mbc2 (selectWrite s m a v) }
  | .mbc3 m => mbc3Write s m a v
  | .mbc5 m => { s with mapper := .mbc5 (m.write a v) }
  | .mbc6 m => { s with mapper := .mbc6 (selectWrite s m a v) }
  | .mbc7 m => { s with mapper := .mbc7 { m with banks := selectWrite s m.banks a v } }
  | .mmm01 m => { s with mapper := .mmm01 (selectWrite s m a v) }
  | .rumble m => { s with mapper := .rumble (selectWrite s m a v) }
  | .camera m => { s with mapper := .camera (selectWrite s m a v) }
  | .supplied k m => suppliedWrite s k m a v

/-- A write to 0xA000-0xBFFF (R105, R450): the register a mapper has there, else external RAM. -/
def windowWrite (s : State) (a : Nat) (v : Byte) : State :=
  if cameraSelected s a then cameraWrite a v s
  else
    match s.mapper with
    | .mbc3 m => mbc3RamWrite s m a v
    | .mbc7 m =>
      if m.banks.ramEnabled then
        if a = 0xA080 then { s with mapper := .mbc7 (m.pinWrite v) } else sensorWrite s m a v
      else s
    | .supplied k m =>
      if (suppliedRegister s k m a).isSome then suppliedWrite s k m a v
      else eramWrite s a v
    | .none | .mbc1 _ | .mbc2 _ | .mbc5 _ | .mbc6 _ | .mmm01 _ | .rumble _ | .camera _ => eramWrite s a v

/-- `Mapper.write(m, a, v)` for 0x0000-0x7FFF and 0xA000-0xBFFF (R450, R103, R105). -/
def mapperWrite (s : State) (a : Nat) (v : Byte) : State :=
  if a < 0x8000 then bankWrite s a v else windowWrite s a v

/-- `Mapper.init` without a supplied mapper model: the default layouts, and free bank registers for the kinds whose layout
the source does not give (R451, R456). The running and the latched copy of an MBC3's clock start as the loader's RTC block,
the running one counting from here; the spec gives neither the start of the count nor the latched copy's value before the
first latching edge (DESIGN CHOICE, log 18). -/
def defaultMapper (kind : MapperKind) (s : State) : Mapper :=
  let regs := Config.mapperInit kind s.params.romBanks s.params.eramBanks
  match kind with
  | .none => .none
  | .mbc1 => .mbc1 { ramEnabled := false, bank := 1, upper := 0, mode := false }
  | .mbc2 => .mbc2 regs
  | .mbc3 =>
    .mbc3 { ramEnabled := false, bank := 1, select := 0, latchArmed := false, running := s.cartRtc
            latched := s.cartRtc, since := clockTotal s }
  | .mbc5 => .mbc5 { ramEnabled := false, bank := 1, ramBank := 0 }
  | .mbc6 => .mbc6 regs
  | .mbc7 =>
    .mbc7 { banks := regs
            eeprom := { phase := .idle, cs := false, sk := false, code := none, address := 0, pending := none, core := [] }
            cells := [] }
  | .mmm01 => .mmm01 regs
  | .rumble => .rumble regs
  | .camera => .camera regs

/-- `Mapper.init(kind, ROM_BANKS, ERAM_BANKS)` (R403, R450): the supplied mapper model, if there is one. -/
def mapperInit (kind : MapperKind) (s : State) : Mapper :=
  if s.params.mapperSupplied then
    .supplied kind (Config.mapperBind kind s.cartRtc (mapperContext s))
  else defaultMapper kind s

end Sys2Proof.Machine
end

