-- ==== Sys2Proof/Machine/Dma.lean ====
section
/-! DEFINITION. Reads of the banked arrays, and the two DMA engines (R350-R374). -/

namespace Sys2Proof.Machine

/-! ## The arrays behind the windows, without blocking -/

/-- 0x0000-0x3FFF (R93): the boot overlay while enabled, else the mapper's bank-0 window. -/
def rom0Read (s : State) (a : Nat) : Byte × State :=
  if s.bootEnabled && overlaid s a then (s.bootRom.read a, s) else mapperRead s a

/-- 0x8000-0x9FFF in the bank in use (R95). -/
def vramRead (s : State) (a : Nat) : Byte := s.vram.read (vramIndex (vramBank s) (a - 0x8000))

/-- 0xC000-0xDFFF in the banks in use (R97). -/
def wramRead (s : State) (a : Nat) : Byte := s.wram.read (wramIndex s a)

/-- `dma_src_read(s, a)` (R354): the region decode without blocking; a draw at 0xFE00 and above. -/
def dmaSrcRead (s : State) (a : Addr) : Byte × State :=
  let n := a.toNat
  match regionOf a with
  | .rom0 => rom0Read s n
  | .romX | .eram => mapperRead s n
  | .vram => (vramRead s n, s)
  | .wram => (wramRead s n, s)
  | .echo => (wramRead s (n - 0x2000), s)
  | .oam | .unusable | .io | .hram | .ie => drawByte s

/-! ## OAM DMA -/

/-- `odma_target(e)` (R351): how many bytes should have been copied after `e` clocks. -/
def odmaTarget (e : Nat) : Nat := min 160 ((e - 4) / 4)

/-- The bus address of the next byte an OAM DMA copies (R355). -/
def odmaNext (s : State) : Addr := s.odma.src + BitVec.ofNat 16 s.odma.copied

/-- Copy the next byte of an OAM DMA (R355). -/
def odmaCopyOne (s : State) : State :=
  let r := dmaSrcRead s (odmaNext s)
  { r.2 with
    oam := r.2.oam.write s.odma.copied r.1
    odma := { r.2.odma with copied := s.odma.copied + 1 } }

/-- Copy `n` bytes in source order. -/
def odmaCopy : Nat → State → State
  | 0, s => s
  | n + 1, s => odmaCopy n (odmaCopyOne s)

/-- One clock of an active OAM DMA: count it, copy the bytes now due, end at 644 (R355). -/
def odmaClock (s : State) : State :=
  let s1 := { s with odma := { s.odma with elapsed := s.odma.elapsed + 1 } }
  let s2 := odmaCopy (odmaTarget s1.odma.elapsed - s1.odma.copied) s1
  if s2.odma.elapsed ≥ odmaClocks then { s2 with odma := { s2.odma with active := false } } else s2

/-- `tick_ODMA(s)` (R355). -/
def tickOdma (s : State) : State := if s.odma.active then odmaClock s else s

/-- `Next_DMA(s)` (R372). -/
def nextDma (s : State) : Nat := if s.odma.active then odmaClocks - s.odma.elapsed else inf

/-- DMA register write, 0xFF46 (R352): start, or restart, from the new page. -/
def writeDmaReg (v : Byte) (s : State) : State :=
  { s with odma := { active := true, src := v ++ (0 : Byte), elapsed := 0, copied := 0, reg := v } }

/-! ## GDMA and HDMA -/

/-- `dma_src_read_hdma(s, a)` (R368): a draw for a VRAM source as well, and for every source at or above 0xFE00; `a` is
`hdma_src + i` as it stands in the rule, which a pointer near 0xFFFF takes beyond 16 bits. -/
def hdmaSrcRead (s : State) (a : Nat) : Byte × State :=
  if 0xFE00 ≤ a ∨ (0x8000 ≤ a ∧ a ≤ 0x9FFF) then drawByte s else dmaSrcRead s (BitVec.ofNat 16 a)

/-- Where in `vram` byte `i` of a block lands (R368): bank VBK, wrapping inside the 8 KiB. -/
def hdmaTarget (s : State) (i : Nat) : Nat :=
  vramIndex s.vbk.toNat ((s.hdma.dst - 0x8000#16 + BitVec.ofNat 16 i) &&& 0x1FFF#16).toNat

/-- Copy byte `i` of a block (R368). -/
def copyBlockByte (i : Nat) (s : State) : State :=
  let r := hdmaSrcRead s (s.hdma.src.toNat + i)
  { r.2 with vram := r.2.vram.write (hdmaTarget s i) r.1 }

/-- `copy_block(s)` (R368). -/
def copyBlock (s : State) : State :=
  let s1 := (List.range 16).foldl (fun s i => copyBlockByte i s) s
  { s1 with hdma := { s1.hdma with
      src := s.hdma.src + 16
      dst := 0x8000#16 ||| ((s.hdma.dst + 16) &&& 0x1FFF#16)
      remaining := s.hdma.remaining - 16 } }

/-- `finish_if_done(s)` (R369). -/
def finishIfDone (s : State) : State :=
  if s.hdma.remaining = 0 then { s with hdma := { s.hdma with mode := .none } } else s

/-- HDMA1-HDMA4 writes (R360). -/
def writeHdma1 (v : Byte) (s : State) : State :=
  { s with hdma := { s.hdma with srcReg := (v ++ (0 : Byte)) ||| (s.hdma.srcReg &&& 0x00F0#16) } }

/-- HDMA2 (R360). -/
def writeHdma2 (v : Byte) (s : State) : State :=
  { s with hdma := { s.hdma with srcReg := (s.hdma.srcReg &&& 0xFF00#16) ||| ((0 : Byte) ++ (v &&& 0xF0)) } }

/-- HDMA3 (R360). -/
def writeHdma3 (v : Byte) (s : State) : State :=
  { s with hdma := { s.hdma with dstReg := 0x8000#16 ||| ((v &&& 0x1F) ++ (0 : Byte)) ||| (s.hdma.dstReg &&& 0x00F0#16) } }

/-- HDMA4 (R360). -/
def writeHdma4 (v : Byte) (s : State) : State :=
  { s with hdma := { s.hdma with dstReg := 0x8000#16 ||| (s.hdma.dstReg &&& 0x1F00#16) ||| ((0 : Byte) ++ (v &&& 0xF0)) } }

/-- The start of a transfer by an HDMA5 write (R361). -/
def startHdma (v : Byte) (s : State) : State :=
  let h := { s.hdma with
    src := s.hdma.srcReg
    dst := s.hdma.dstReg
    remaining := ((v.extractLsb' 0 7).toNat + 1) * 16
    copyLeft := 0 }
  if v.getLsbD 7 then
    let s1 := { s with hdma := { h with mode := .hblank, prepLeft := 0, lastLy := none } }
    if s.ppu.view.lcdOn then s1 else finishIfDone (copyBlock s1)
  else { s with hdma := { h with mode := .general, prepLeft := s.params.hdmaPrepClocks } }

/-- HDMA5 write, 0xFF55 (R361-R363). While general DMA runs no write can arrive (R363); it changes nothing. -/
def writeHdma5 (v : Byte) (s : State) : State :=
  match s.hdma.mode with
  | .none => startHdma v s
  | .hblank => if v.getLsbD 7 then startHdma v s else { s with hdma := { s.hdma with mode := .none } }
  | .general => s

/-- HDMA5 read (R364). -/
def readHdma5 (s : State) : Byte :=
  let blocks := s.hdma.remaining / 16
  let low := BitVec.ofNat 8 (blocks - 1) &&& 0x7F
  match s.hdma.mode with
  | .none => if blocks = 0 then 0xFF else 0x80 ||| low
  | .general | .hblank => low

/-- `on_hblank(s, ly)` (R365). -/
def onHblank (ly : Byte) (s : State) : State :=
  match s.hdma.mode with
  | .hblank =>
    if s.hdma.lastLy = some ly then s
    else
      let s1 := copyBlock s
      finishIfDone { s1 with hdma := { s1.hdma with lastLy := some ly, stall := s1.hdma.stall + gdmaBlockClocks s } }
  | .none | .general => s

/-- `Reset_DMA(s)` (R373): engines idle; pointers and registers take fresh draws. -/
def resetDma (s : State) : State :=
  let d1 := drawAddr s
  let d2 := drawByte d1.2
  let d3 := drawAddr d2.2
  let d4 := drawAddr d3.2
  let d5 := drawAddr d4.2
  let d6 := drawAddr d5.2
  { d6.2 with
    odma := { active := false, src := d1.1, elapsed := 0, copied := 0, reg := d2.1 }
    hdma := { mode := .none, remaining := 0, prepLeft := 0, copyLeft := 0, src := d3.1, dst := d4.1, lastLy := none,
              srcReg := d5.1, dstReg := d6.1, stall := 0 } }

end Sys2Proof.Machine
end

