-- ==== Sys2Proof/Machine/Timer.lean ====
section
/-! DEFINITION. The timer (R310-R332). -/

namespace Sys2Proof.Machine

/-- The divider bit `k` that `TAC[1:0]` selects (R310). -/
def timerBit (tac : BitVec 3) : Nat :=
  match (tac.extractLsb' 0 2).toNat with
  | 0 => 9
  | 1 => 3
  | 2 => 5
  | _ => 7

/-- The period `P = 2^(k+1)` (R310). -/
def timerPeriod (tac : BitVec 3) : Nat := 2 ^ (timerBit tac + 1)

/-- `signal(s)` (R311). -/
def timerSignal (t : Timer) : Bool := t.tac.getLsbD 2 && t.sysClocks.getLsbD (timerBit t.tac)

/-- `inc_TIMA(s)` (R312). -/
def incTima (t : Timer) : Timer :=
  if t.tima = 0xFF then { t with tima := 0, reloadCd := 4, irqCd := 4 } else { t with tima := t.tima + 1 }

/-- The reload countdown of one clock (R313). -/
def stepReload (t : Timer) : Timer :=
  if t.reloadCd = 0 then t
  else { t with reloadCd := t.reloadCd - 1, tima := if t.reloadCd = 1 then t.tma else t.tima }

/-- The interrupt countdown of one clock (R313). -/
def stepIrqCd (t : Timer) : Timer := if t.irqCd = 0 then t else { t with irqCd := t.irqCd - 1 }

/-- The divider step of one clock: TIMA counts on the falling edge of the signal (R311, R313). -/
def stepDivider (t : Timer) : Timer :=
  let t1 := { t with sysClocks := t.sysClocks + 1 }
  if timerSignal t && !timerSignal t1 then incTima t1 else t1

/-- `tick_Timer(s)` (R313). -/
def tickTimer (s : State) : State :=
  let s1 := { s with timer := stepDivider (stepIrqCd (stepReload s.timer)) }
  if s.timer.irqCd = 1 then raiseIrq 2 s1 else s1

/-- `Next_Timer(s)` (R331). -/
def nextTimer (t : Timer) : Nat :=
  let p := timerPeriod t.tac
  min (if t.reloadCd > 0 then t.reloadCd else inf)
    (min (if t.irqCd > 0 then t.irqCd else inf)
      (if t.tac.getLsbD 2 then (p - t.sysClocks.toNat % p) + (0xFF - t.tima.toNat) * p else inf))

/-- `Reset_Timer(s)` (R332). -/
def resetTimer (s : State) : State :=
  let d1 := drawAddr s
  let d2 := drawByte d1.2
  let d3 := drawByte d2.2
  let d4 := drawByte d3.2
  { d4.2 with timer := { sysClocks := d1.1, tima := d2.1, tma := d3.1, tac := d4.1.extractLsb' 0 3, reloadCd := 0, irqCd := 0 } }

/-- DIV read (R320). -/
def readDiv (s : State) : Byte := s.timer.sysClocks.extractLsb' 8 8

/-- DIV write, any value (R321). -/
def writeDiv (s : State) : State :=
  let t := { s.timer with sysClocks := 0 }
  { s with timer := if timerSignal s.timer then incTima t else t }

/-- TIMA write (R323). -/
def writeTima (v : Byte) (s : State) : State :=
  if s.timer.reloadCd = 0 then { s with timer := { s.timer with tima := v } }
  else
    match s.params.timaWriteInReload with
    | .cancel => { s with timer := { s.timer with tima := v, reloadCd := 0, irqCd := 0 } }
    | .overwritten => { s with timer := { s.timer with tima := v } }

/-- TMA write (R325). -/
def writeTma (v : Byte) (s : State) : State := { s with timer := { s.timer with tma := v } }

/-- `TAC_WRITE_GLITCH(HW_MODEL, old_tac, new_tac, sys_clocks, old_sig, new_sig)` (R327). -/
def tacGlitch (s : State) (oldTac newTac : BitVec 3) (oldSig newSig : Bool) : Bool :=
  match s.params.tacGlitch with
  | .fallingEdge => oldSig && !newSig
  | .supplied => Config.tacWriteGlitch s.params.hwModel oldTac newTac s.timer.sysClocks oldSig newSig

/-- TAC write (R327). -/
def writeTac (v : Byte) (s : State) : State :=
  let t := { s.timer with tac := v.extractLsb' 0 3 }
  { s with timer := if tacGlitch s s.timer.tac t.tac (timerSignal s.timer) (timerSignal t) then incTima t else t }

end Sys2Proof.Machine
end

