-- ==== Sys2Proof/Machine/Collaborators.lean ====
section
/-! DEFINITION. The collaborators' contracts (R430-R447). A supplied model is a free one-clock step of its own state with
the clocks to its next event counted down, which is what composition and the horizon law (R286, R287) leave of it; an
absent one changes nothing and has no event. -/

namespace Sys2Proof.Config

open Sys2Proof.Machine

/-- `Reset_sub(s)` of a supplied sound, serial or camera model's own state, from its view of the block (R280, R283). -/
opaque collabReset : Collab → State → CollabCore
/-- `Reset_PPU(s)` of a supplied PPU model, from its view of the block (R283, R430, R432). -/
opaque ppuReset : State → Ppu
/-- The sensor frame buffer `Reset_Camera(s)` of a supplied camera model leaves, from its view of the block (R283, R446). -/
opaque cameraResetFrame : State → List Byte

end Sys2Proof.Config

namespace Sys2Proof.Machine

/-- What a collaborator's clock may depend on beside its own state. -/
def collabContext (s : State) : CollabContext :=
  { hwModel := s.params.hwModel, cgb := s.family == .cgb, doubleSpeed := s.doubleSpeed }

/-- One clock of a supplied sound, serial or camera core (R280). -/
def ageCore (c : Collab) (core : List Byte) (s : State) : List Byte := Config.collabTick c (collabContext s) core

/-- One clock of a wait: none stays none, an overdue wait (0) stays overdue. -/
def waitLess : Option Nat → Option Nat
  | none => none
  | some n => some (n - 1)

/-- Whether this clock is the one at which the wait runs out. -/
def waitEnds (w : Option Nat) : Bool := w == some 1

/-! ## PPU -/

/-- The PPU enters mode 0 on line `ly`: the renderer first, then `on_hblank` (R432); never with the screen off (R435). -/
def enterHblank (ly : Byte) (s : State) : State :=
  let own := { s.ppu.own with core := Config.ppuDraw s.renderer ly s.ppu.own.core s.vram.read s.oam.read }
  onHblank ly { s with ppu := { s.ppu with own := own } }

/-- The nearer of two events. -/
def waitMin : Option Nat → Option Nat → Option Nat
  | none, w => w
  | some n, none => some n
  | some n, some m => some (min n m)

/-- PPU clocks to the event `Next_PPU` is bound by (R432): the next IF[0] or IF[1] setting, and the next mode-0 entry
while HBlank DMA runs. -/
def ppuWait (s : State) : Option Nat :=
  match s.hdma.mode with
  | .hblank => waitMin s.ppu.own.wait s.ppu.hblankIn
  | .none | .general => s.ppu.own.wait

/-- Whether a PPU clock may enter mode 0 (R287, R432): any clock while no HBlank DMA runs, else the one `Next_PPU` ends at. -/
def mayEnterHblank (s : State) (ended : Bool) : Bool := ended || s.hdma.mode != .hblank

/-- The mode after a PPU clock whose model gives `m`: a mode-0 entry the horizon law forbids is none (R287, R432, R435). -/
def ppuMode (s : State) (ended : Bool) (m : PpuMode) : PpuMode :=
  if m == .m0 && s.ppu.view.lcdOn && !mayEnterHblank s ended then s.ppu.view.mode else m

/-- The PPU's own fields after one clock: `ended` says that `Next_PPU` ran out at it (R287, R432). `ppu.lcd_on` is as it was:
it follows register writes and resets only (DESIGN CHOICE, log 11; R54 leaves all of it to the PPU). -/
def ppuAged (s : State) (e : PpuStep) (ended : Bool) : Ppu :=
  { view := { mode := ppuMode s ended e.mode, ly := e.ly, lcdOn := s.ppu.view.lcdOn }
    own := { core := e.core, wait := if ended then e.wait else waitLess s.ppu.own.wait }
    hblankIn := if ended || waitEnds s.ppu.hblankIn then e.hblankIn else waitLess s.ppu.hblankIn
    halfClock := s.ppu.halfClock }

/-- The IF bits a PPU clock raises: IF[0] and IF[1], where `Next_PPU` ran out only (R287, R289, R471). -/
def ppuIrqs (e : PpuStep) (ended : Bool) (s : State) : State :=
  let s1 := if ended && e.vblank then raiseIrq 0 s else s
  if ended && e.stat then raiseIrq 1 s1 else s1

/-- Whether a PPU clock enters mode 0: from another mode, with the screen on (R432, R435). -/
def entersHblank (old new : PpuView) : Bool := old.lcdOn && old.mode != .m0 && new.mode == .m0

/-- One PPU clock (R280, R432): the model's step, the interrupts it raises, then the mode-0 entry. -/
def ppuClock (s : State) : State :=
  let e := Config.ppuStep (collabContext s) s.ppu.view s.ppu.own.core s.vram.read s.oam.read
  let ended := waitEnds (ppuWait s)
  let s1 := ppuIrqs e ended { s with ppu := ppuAged s e ended }
  if entersHblank s.ppu.view s1.ppu.view then enterHblank s1.ppu.view.ly s1 else s1

/-- One reference clock for the PPU: in double speed one PPU clock is 2 reference clocks (R436). -/
def tickPpu (s : State) : State :=
  if s.params.hasPpu then
    if s.doubleSpeed && !s.ppu.halfClock then { s with ppu := { s.ppu with halfClock := true } }
    else ppuClock { s with ppu := { s.ppu with halfClock := false } }
  else s

/-- `Next_PPU(s)` in reference clocks (R432, R436). -/
def nextPpu (s : State) : Nat :=
  if s.params.hasPpu then
    match ppuWait s with
    | none => inf
    | some n => if s.doubleSpeed then 2 * n - (if s.ppu.halfClock then 1 else 0) else n
  else inf

/-- `Reset_PPU(s)` (R283, R430): the supplied model's, which may depend on its view of the block state, with a whole PPU
clock due (log 12); the absent one's (log 34). -/
def resetPpu (s : State) : State :=
  { s with ppu := if s.params.hasPpu then { Config.ppuReset (collabView s) with halfClock := false } else idlePpu }

/-! ## Sound -/

/-- One clock of the sound collaborator: its own state only (R289, R440); in double speed one per reference clock too (DESIGN
CHOICE, log 12). -/
def tickSound (s : State) : State :=
  if s.params.hasSound then
    let core := ageCore .sound s.sound.core s
    { s with sound := if waitEnds s.sound.wait then Config.collabEvent .sound core
                      else { core := core, wait := waitLess s.sound.wait } }
  else s

/-! ## Serial -/

/-- The byte a completed transfer receives: 0xFF with no partner (R444), a free byte with one. -/
def serialIncoming (s : State) : Byte × State :=
  if s.params.serialPartner then drawByte s else (0xFF, logAnomaly .resourceSerial none s)

/-- Whether a serial transition completes a transfer: on the external clock only with a partner (R443, R444). -/
def serialDone (s : State) : Bool :=
  Config.serialCompletes s.serial.core && (s.params.serialPartner || !Config.serialExternalClock s.serial.core)

/-- A serial transition; the completion of a transfer sets IF[3] (R443). -/
def serialTransition (s : State) : State :=
  if serialDone s then
    let r := serialIncoming s
    let next := Config.collabEvent .serial (Config.serialReceive s.serial.core r.1)
    raiseIrq 3 { r.2 with serial := next }
  else { s with serial := Config.collabEvent .serial s.serial.core }

/-- One clock of the serial collaborator (R443); in double speed one per reference clock too (DESIGN CHOICE, log 12). -/
def tickSerial (s : State) : State :=
  if s.params.hasSerial then
    let w := s.serial.wait
    let s1 := { s with serial := { core := ageCore .serial s.serial.core s, wait := waitLess w } }
    if waitEnds w then serialTransition s1 else s1
  else s

/-! ## Camera -/

/-- Copy the frame buffer into external RAM, as far as the cartridge has it (R446, R456), whatever the mapper's RAM enable
and RAM bank are (DESIGN CHOICE, log 14). -/
def copyFrame : List Byte → Nat → State → State
  | [], _, s => s
  | v :: rest, i, s =>
    copyFrame rest (i + 1) (if i < s.params.eramBanks * 0x2000 then { s with eram := s.eram.write i v } else s)

/-- A capture: take the frame, copy it into cartridge RAM, log what is approximated (R446, R490). -/
def cameraCapture (s : State) : State :=
  let frame := Config.cameraFrame s.params.cameraDevice s.camera.own.core
  let s1 := if Config.cameraFilterUnsupported s.camera.own.core then logOnce .unsupportedCameraFilter s else s
  let s2 := if s.params.cameraDevice then s1 else logAnomaly .resourceCamera none s1
  let s3 := { s2 with camera := { s2.camera with frame := frame } }
  copyFrame frame (Config.cameraTarget s.camera.own.core) s3

/-- A camera transition (R446). -/
def cameraTransition (s : State) : State :=
  let s1 := if Config.cameraCaptures s.camera.own.core then cameraCapture s else s
  { s1 with camera := { s1.camera with own := Config.collabEvent .camera s.camera.own.core } }

/-- One clock of the camera collaborator (R446); in double speed one per reference clock too (DESIGN CHOICE, log 12). -/
def tickCamera (s : State) : State :=
  if s.params.hasCamera then
    let w := s.camera.own.wait
    let s1 := { s with camera := { s.camera with own := { core := ageCore .camera s.camera.own.core s, wait := waitLess w } } }
    if waitEnds w then cameraTransition s1 else s1
  else s

/-! ## Sound, serial and camera: next event and reset -/

/-- `Next_sub` of an event-driven collaborator: its wait, INF when it has none or is absent (R280, R282). D35 and R436 give a
rate in double speed for the timer, OAM DMA and the PPU only: a wait of sound, serial and camera counts reference clocks in
either speed, and a speed switch leaves it as it is (DESIGN CHOICE, log 12). -/
def nextOf (supplied : Bool) (c : CollabCore) : Nat :=
  if supplied then
    match c.wait with
    | none => inf
    | some n => n
  else inf

/-- `Reset_sub(s)` of a collaborator: the supplied model's, which may depend on its view of the block state; the absent
one's (R283, R430, log 34). -/
def resetCore (supplied : Bool) (c : Collab) (s : State) : CollabCore :=
  if supplied then Config.collabReset c (collabView s) else idleCore

/-- `Reset_Camera(s)` (R283). What it leaves in the sensor frame buffer is the supplied model's; without a model the
buffer is emptied (DESIGN CHOICE, log 34). -/
def resetCamera (s : State) : State :=
  { s with camera := { own := resetCore s.params.hasCamera .camera s
                       frame := if s.params.hasCamera then Config.cameraResetFrame (collabView s) else [] } }

/-! ## Register handlers -/

/-- A collaborator's own state; the joypad and the camera have no wait a register handler sees. -/
def collabState (c : Collab) (s : State) : CollabCore :=
  match c with
  | .ppu => s.ppu.own
  | .sound => s.sound
  | .serial => s.serial
  | .camera => s.camera.own
  | .joypad => { core := s.joypad, wait := none }

/-- Store a collaborator's own state. -/
def setCollabState (c : Collab) (x : CollabCore) (s : State) : State :=
  match c with
  | .ppu => { s with ppu := { s.ppu with own := x } }
  | .sound => { s with sound := x }
  | .serial => { s with serial := x }
  | .camera => { s with camera := { s.camera with own := x } }
  | .joypad => { s with joypad := x.core }

/-- The declared side effect of a register read (R194, R430). The spec leaves open what it may change: here the
collaborator's own core and wait and the `io_shadow` bytes of the addresses it owns (R58) and nothing else, no view of the
PPU and no IF bit (DESIGN CHOICE, log 29). -/
def collabReadEffect (c : Collab) (a : Addr) (s : State) : State :=
  let e := Config.collabReadEffect c (collabState c s) (ownShadow c s) a
  keepShadow c e.shadow (setCollabState c e.next s)

/-- `Collab(a).read(s, a)` (R192): a draw without a model; a side effect only where the collaborator declares one (R194,
R430). The spec leaves open whether the byte is the one before or after the side effect: here it is the one before it
(DESIGN CHOICE, log 29). Of the block the handler sees its own core, the `io_shadow` bytes of the addresses it owns (R58)
and the address, and nothing else (DESIGN CHOICE, log 29). -/
def collabRead (c : Collab) (a : Addr) (s : State) : Byte × State :=
  if present s c then
    (Config.collabRead c (collabState c s).core (ownShadow c s) a,
     if Config.collabReadDeclares c a then collabReadEffect c a s else s)
  else drawByte s

/-- The PPU's view and its next mode-0 entry follow its register writes (LCDC turns the screen on and off, R431, R435). -/
def ppuAfterWrite (c : Collab) (a : Addr) (v : Byte) (s : State) : State :=
  match c with
  | .ppu =>
    let w := Config.ppuAfterWrite s.ppu.view s.ppu.own.core a v
    { s with ppu := { s.ppu with view := w.view, hblankIn := w.hblankIn } }
  | .sound | .serial | .camera | .joypad => s

/-- The joypad's own interface sets IF[4] (R289, R447); no other collaborator's write handler sets an IF bit. Whether a
write to P1 does is left to the joypad model (DESIGN CHOICE, log 15). -/
def joypadIrq (c : Collab) (irq : Bool) (s : State) : State :=
  match c with
  | .joypad => if irq then raiseIrq 4 s else s
  | .ppu | .sound | .serial | .camera => s

/-- `Collab(a).write(s, a, v)` (R192): ignored without a model. Of the block the handler sees its own core and wait, the
`io_shadow` bytes of the addresses it owns (R58), the family and the speed, and nothing else (DESIGN CHOICE, log 29). -/
def collabWrite (c : Collab) (a : Addr) (v : Byte) (s : State) : State :=
  if present s c then
    let w := Config.collabWrite c (collabState c s) (ownShadow c s) a v (s.family == .cgb) s.doubleSpeed
    joypadIrq c w.irq (ppuAfterWrite c a v (keepShadow c w.shadow (setCollabState c w.next s)))
  else s

/-! ## What the host sees and does -/

/-- `GetSamplesFrame` (R441): a copy of the sample buffer. Without a sound model the spec gives no samples; the copy is
empty (DESIGN CHOICE, log 34). -/
def samplesFrame (s : State) : List Byte := if s.params.hasSound then Config.soundSamples s.sound.core else []

/-- The RTC block of a save (R408): the running clock of an MBC3, which under HOST is the host's time, so draws (R454,
D56). The spec says only "a serialized timer-register block" (R460) and not which copy; it is the running one here, not the
latched one (DESIGN CHOICE, log 18). A supplied mapper's is what its model gives; the other kinds have none. The spec gives
no mark of an MBC3 without a clock (R336); every MBC3 is taken as having one, its registers 0 where the loader gave no block
(DESIGN CHOICE, log 18). -/
def savedRtc (s : State) : Option Rtc × State :=
  match s.mapper with
  | .mbc3 m =>
    match s.params.rtcSource with
    | .host => ((drawRtc s).1, (drawRtc s).2)
    | .emulated => (rtcNow s m, s)
  | .supplied k m => (Config.mapperSavedRtc k m (mapperContext s) (drawBytes 5 s).1, (drawBytes 5 s).2)
  | .none | .mbc1 _ | .mbc2 _ | .mbc5 _ | .mbc6 _ | .mbc7 _ | .mmm01 _ | .rumble _ | .camera _ => (none, s)

/-- The external-RAM bytes of a save: a raw dump of bank `b` (R408, R460). -/
def savedBank (s : State) (b : Nat) : List Byte := (List.range 0x2000).map (fun i => s.eram.read (eramIndex b i))

/-- Every external-RAM bank of a save (R408). -/
def savedBanks (s : State) : List (List Byte) := (List.range s.params.eramBanks).map (savedBank s)

/-- The host takes the audio samples (R408, R441): the port holds the copy, and nothing else changes. -/
def takeAudio (s : State) : State := { s with response := some (.samples (samplesFrame s)) }

/-- The host takes a save (R408): the port holds the external-RAM banks and the RTC block. -/
def takeSave (s : State) : State :=
  { (savedRtc s).2 with response := some (.saved (savedBanks s) (savedRtc s).1) }

/-- The host's run-length budget of one frame (R251, R408). -/
def frameBudget (s : State) : Nat := if s.doubleSpeed then 2 * frameClocks else frameClocks

/-- The host moves the joypad lines (R447): the collaborator may raise IF[4]; without a model nothing changes. -/
def moveJoypad (keys : Byte) (s : State) : State :=
  if s.params.hasJoypad then
    let r := Config.joypadInput s.joypad keys
    let s1 := { s with joypad := r.1 }
    if r.2 then raiseIrq 4 s1 else s1
  else s

/-- The loader (R460): ROM, bank counts, external RAM (draws where no save byte is supplied), RTC block. The block waits in
`cartRtc` until a MAPPERSET puts it into the mapper (DESIGN CHOICE, log 18). The spec gives only the order loader, MAPPERSET,
POWERON (R460, R524): a cartridge loaded after a MAPPERSET leaves the bound mapper and its registers as they are, and its
bank counts hold for them at once, not those `Mapper.init` was given (DESIGN CHOICE, log 8). -/
def loadCartridge (c : Cartridge) (s : State) : State :=
  let d := drawMem s
  { d.2 with
    rom := Mem.ofCells 0 c.rom
    eram := Mem.ofCells d.1.gen c.saveRam
    params := { s.params with romBanks := c.romBanks, eramBanks := c.eramBanks }
    cartRtc := c.rtc.getD .zero }

end Sys2Proof.Machine
end

