-- ==== Sys2Proof/Machine/Reconcile.lean ====
section
/-! DEFINITION. The reconcilers (R280-R289): one clock of a subsystem, its advance, its next event, its reset, and
the lockstep ReconcileAll (R284). -/

namespace Sys2Proof.Machine

/-- One clock of a subsystem (R280). -/
def tickSub (sub : Subsystem) (s : State) : State :=
  match sub with
  | .timer => tickTimer s
  | .serial => tickSerial s
  | .ppu => tickPpu s
  | .sound => tickSound s
  | .dma => tickOdma s
  | .camera => tickCamera s

/-- `Adv_sub(s, d)`: the `d`-fold iteration of one clock (R286, R330, R371). -/
def advance (sub : Subsystem) : Nat → State → State
  | 0, s => s
  | d + 1, s => advance sub d (tickSub sub s)

/-- `Next_sub(s)`, counted from `last[sub]` (R280, R282). -/
def nextEvent (sub : Subsystem) (s : State) : Nat :=
  match sub with
  | .timer => nextTimer s.timer
  | .serial => nextOf s.params.hasSerial s.serial
  | .ppu => nextPpu s
  | .sound => nextOf s.params.hasSound s.sound
  | .dma => nextDma s
  | .camera => nextOf s.params.hasCamera s.camera.own

/-- `Reset_sub(s)` (R283). -/
def resetSub (sub : Subsystem) (s : State) : State :=
  match sub with
  | .timer => resetTimer s
  | .serial => { s with serial := resetCore s.params.hasSerial .serial s }
  | .ppu => resetPpu s
  | .sound => { s with sound := resetCore s.params.hasSound .sound s }
  | .dma => resetDma s
  | .camera => resetCamera s

/-- One subsystem's part of a lockstep clock: step it if it is at `c` (R284). -/
def lockOne (c : Nat) (s : State) (sub : Subsystem) : State :=
  if s.last.get sub = c then setLast sub (c + 1) (tickSub sub s) else s

/-- One lockstep clock: every subsystem at `c` steps, in the listed order (R284). -/
def lockClock (c : Nat) (s : State) : State := lockOrder.foldl (lockOne c) s

/-- The lockstep loop (R284): while some counter is below `r`, step the laggards. Each pass raises the least counter,
so `r` passes are enough. -/
def lockstep : Nat → Nat → State → State
  | 0, _, s => s
  | k + 1, r, s => if s.last.least < r then lockstep k r (lockClock s.last.least s) else s

/-- `ReconcileAll(r)` (R284). -/
def reconcileTo (r : Nat) (s : State) : State :=
  if r > s.ref then raise .refAhead s else lockstep r r s

/-- `ReconcileAll(s.ref)` (R174). -/
def reconcileAll (s : State) : State := reconcileTo s.ref s

/-- RECONCILE (R281): bring one subsystem to reference clock `r`. -/
def reconcile (sub : Subsystem) (r : Nat) (s : State) : State :=
  if r < s.last.get sub then
    match sub with
    | .sound => s
    | .timer | .serial | .ppu | .dma | .camera => raise .refBackwards s
  else if r > s.ref then raise .refAhead s
  else setLast sub r (advance sub (r - s.last.get sub) s)

/-- NEXTEVT (R282): the value, or F_NEXTEVT for fewer than 1 clock. -/
def nextEvt (sub : Subsystem) (s : State) : State :=
  if nextEvent sub s < 1 then raise .nextevt s else respond (.clocks (min (nextEvent sub s) inf)) s

/-- SUBRESET (R283). -/
def subReset (sub : Subsystem) (s : State) : State := setLast sub s.ref (resetSub sub s)

end Sys2Proof.Machine
end

