-- ==== Sys2Proof/Machine/Bus.lean ====
section
/-! DEFINITION. The bus: region reads and writes (R93-R109) and the I/O handlers (R190-R198). -/

namespace Sys2Proof.Machine

/-! ## I/O handlers -/

/-- KEY1 read (R196). -/
def readKey1 (s : State) : Byte :=
  0x7E ||| (if s.doubleSpeed then 0x80 else 0) ||| (if s.key1Prepare then 0x01 else 0)

/-- `io_read(s, a)` (R190). -/
def ioRead (a : Addr) (s : State) : Byte × State :=
  match ioRegOf s a with
  | .div => (readDiv s, s)
  | .tima => (s.timer.tima, s)
  | .tma => (s.timer.tma, s)
  | .tac => (0xF8 ||| s.timer.tac.setWidth 8, s)
  | .ifReg => (0xE0 ||| (s.ifReg &&& 0x1F), s)
  | .dma => (s.odma.reg, s)
  | .boot => (0xFF, s)
  | .ie => (s.ieReg, s)
  | .key1 => (readKey1 s, s)
  | .vbk => (0xFE ||| s.vbk.setWidth 8, s)
  | .hdma1 | .hdma2 | .hdma3 | .hdma4 => (0xFF, s)
  | .hdma5 => (readHdma5 s, s)
  | .svbk => (0xF8 ||| s.svbk.setWidth 8, s)
  | .collab c => collabRead c a s
  | .unrecognized => (0xFF, logAnomaly .bus (some (a, .read)) s)

/-- `write_BOOT(s, v)` (R195): any byte disables the boot ROM; the dispatch set is selected again (R177). -/
def writeBoot (s : State) : State := selectDispatch { s with bootEnabled := false }

/-- IF write (R473): bits 4:0. -/
def writeIf (v : Byte) (s : State) : State := { s with ifReg := (s.ifReg &&& 0xE0) ||| (v &&& 0x1F) }

/-- `io_write(s, a, v)` (R191). -/
def ioWrite (a : Addr) (v : Byte) (s : State) : State :=
  match ioRegOf s a with
  | .div => writeDiv s
  | .tima => writeTima v s
  | .tma => writeTma v s
  | .tac => writeTac v s
  | .ifReg => writeIf v s
  | .dma => writeDmaReg v s
  | .boot => writeBoot s
  | .ie => { s with ieReg := v }
  | .key1 => { s with key1Prepare := v.getLsbD 0 }
  | .vbk => { s with vbk := v.extractLsb' 0 1 }
  | .hdma1 => writeHdma1 v s
  | .hdma2 => writeHdma2 v s
  | .hdma3 => writeHdma3 v s
  | .hdma4 => writeHdma4 v s
  | .hdma5 => writeHdma5 v s
  | .svbk => { s with svbk := v.extractLsb' 0 3 }
  | .collab c => collabWrite c a v s
  | .unrecognized => logAnomaly .bus (some (a, .write)) s

/-! ## Regions -/

/-- Whether the PPU blocks CPU reads of VRAM (R95). -/
def vramBlocked (s : State) : Bool := s.ppu.view.mode == .m3 && s.params.strictVram

/-- Whether the PPU blocks CPU reads of OAM (R99). -/
def oamBlocked (s : State) : Bool := s.ppu.view.mode == .m2 || s.ppu.view.mode == .m3

/-- The byte a region gives a CPU read (R93-R101). -/
def regionValue (a : Addr) (s : State) : Byte × State :=
  let n := a.toNat
  match regionOf a with
  | .rom0 => rom0Read s n
  | .romX | .eram => mapperRead s n
  | .vram => (if vramBlocked s then 0xFF else vramRead s n, s)
  | .wram => (wramRead s n, s)
  | .echo => (wramRead s (n - 0x2000), s)
  | .oam => (if oamBlocked s then 0xFF else s.oam.read (n - 0xFE00), s)
  | .unusable => (0x00, s)
  | .io | .ie => ioRead a s
  | .hram => (s.hram.read (n - 0xFF80), s)

/-- `region_read(s, a)` (R93-R102): with the OAM-DMA bus conflict, a draw below 0xFF00. -/
def regionRead (a : Addr) (s : State) : Byte × State :=
  if s.params.oamDmaBusConflict && s.odma.active && decide (a.toNat < 0xFF00) then drawByte s else regionValue a s

/-- `region_write(s, a, v)` (R103-R109). -/
def regionWrite (a : Addr) (v : Byte) (s : State) : State :=
  let n := a.toNat
  match regionOf a with
  | .rom0 | .romX | .eram => mapperWrite s n v
  | .vram =>
    if s.params.blockWrites && vramBlocked s then s
    else { s with vram := s.vram.write (vramIndex (vramBank s) (n - 0x8000)) v }
  | .wram => { s with wram := s.wram.write (wramIndex s n) v }
  | .echo => { s with wram := s.wram.write (wramIndex s (n - 0x2000)) v }
  | .oam =>
    if s.params.blockWrites && oamBlocked s then s else { s with oam := s.oam.write (n - 0xFE00) v }
  | .unusable => s
  | .io | .ie => ioWrite a v s
  | .hram => { s with hram := s.hram.write (n - 0xFF80) v }

end Sys2Proof.Machine
end

