-- ==== Sys2Proof/Machine/Ops.lean ====
section
/-! DEFINITION. The named operations over memory and registers that the commands share: bus accesses with their
reconciliation, taking an interrupt (the acknowledge sequence R477), the interrupt check, the DMA execution, the
horizon, the CPU context and the speed switch, and what the host does between commands. -/

namespace Sys2Proof.Machine

/-! ## Bus accesses -/

/-- A read at the current clock: reconcile, then the region's byte (R170, R174). -/
def busRead (a : Addr) (s : State) : Byte × State := regionRead a (reconcileAll s)

/-- A write at the current clock: reconcile, write, mark the break (R171, R174, R175). -/
def busWrite (a : Addr) (v : Byte) (s : State) : State := markBreak a (regionWrite a v (reconcileAll s))

/-- Run an access of the CPU unless general DMA owns it (R374). -/
def unlessGdma (f : State → State) (s : State) : State :=
  match s.hdma.mode with
  | .general => raise .cpuDuringGdma s
  | .none | .hblank => f s

/-- RD8 and RDREG8 (R170, R172). -/
def readCommand (a : Addr) : State → State :=
  unlessGdma fun s =>
    let r := busRead a s
    respond (.byte r.1) r.2

/-- WR8 and WRREG8 (R171, R173). -/
def writeCommand (a : Addr) (v : Byte) : State → State := unlessGdma (busWrite a v)

/-! ## Taking an interrupt, and the interrupt check -/

/-- The jump of the acknowledge sequence, resolved after the pushes (R476, R477). -/
def takeVector (s : State) : State :=
  let p := pendingIrqs s
  if p = 0 then { s with cpuPc := 0x0000 }
  else { clearIrq (lowestSource p) s with cpuPc := vectorOf (lowestSource p) }

/-- The acknowledge sequence (R477): clear IME, push PC high at +8 and low at +4 clocks, resolve, clear the IF bit,
jump, 8 clocks more. The return from an interrupt is the CPU's: it pops the PC with reads and sets IME with
CPUSET.IME (R483); the block restores nothing. -/
def acknowledge (s : State) : State :=
  let hi := s.cpuSp - 1
  let lo := s.cpuSp - 2
  let pcHi := s.cpuPc.extractLsb' 8 8
  let pcLo := s.cpuPc.extractLsb' 0 8
  unlessFaulted (addClock 8 { s with ime := false }) fun s1 =>
    unlessFaulted (addClock 4 (busWrite hi pcHi s1)) fun s2 =>
      addClock 8 (takeVector (reconcileAll { busWrite lo pcLo s2 with cpuSp := lo }))

/-- The wake from HALT after an acknowledge (R478). -/
def wakeAfterAck (s : State) : State :=
  match s.haltMode with
  | .halt => addClock s.params.haltWakeExtra { s with haltMode := .run }
  | .run | .stop => s

/-- The wake from HALT with IME clear: 4 clocks, nothing serviced (R479). -/
def wakeWithoutService (s : State) : State :=
  match s.haltMode with
  | .halt => addClock 4 { s with haltMode := .run }
  | .run | .stop => s

/-- STOP ends when STOP_EXIT holds; nothing is serviced (R404, R481). -/
def stopCheck (s : State) : State := if stopExit s then { s with haltMode := .run } else s

/-- The interrupt check after its reconciliation (R404). -/
def irqDecide (s : State) : State :=
  match s.haltMode with
  | .stop => stopCheck s
  | .run | .halt =>
    if pendingIrqs s = 0 then s
    else if s.ime then unlessFaulted (acknowledge s) wakeAfterAck
    else wakeWithoutService s

/-- IRQCHK (R404): the check, answering the clocks consumed. -/
def irqCheck : State → State :=
  unlessGdma fun s =>
    let t := irqDecide (reconcileAll s)
    respond (.clocks (t.ref - s.ref)) t

/-! ## DMAEXEC -/

/-- One block of general DMA: reconcile, copy, pay (R370). -/
def gdmaBlock (s : State) : State :=
  let s1 := copyBlock (reconcileAll s)
  addClock (gdmaBlockClocks s1) s1

/-- The block loop (R370): until the transfer ends or the budget `c` from `start` is met. A call copies at most as many
blocks as the bytes left; `k` bounds them. -/
def gdmaLoop (start c : Nat) : Nat → State → State
  | 0, s => s
  | k + 1, s =>
    unlessFaulted (gdmaBlock s) fun s1 =>
      if s1.hdma.remaining = 0 then { s1 with hdma := { s1.hdma with mode := .none } }
      else if s1.ref - start ≥ c then s1
      else gdmaLoop start c k s1

/-- The preparation clocks a call pays: `min(hdma_prep_left, max(c, 1))` (R370). -/
def prepClocks (c : Nat) (s : State) : Nat := min s.hdma.prepLeft (max c 1)

/-- Pay preparation clocks (R370). -/
def payPrep (c : Nat) (s : State) : State :=
  let t := prepClocks c s
  addClock t { s with hdma := { s.hdma with prepLeft := s.hdma.prepLeft - t } }

/-- General DMA run for a budget of `c` clocks (R370), once it is known to be active. -/
def gdmaRun (c : Nat) (s : State) : State :=
  if s.hdma.prepLeft > 0 then
    unlessFaulted (payPrep c s) fun s1 =>
      if s1.ref - s.ref ≥ c then s1 else gdmaLoop s.ref c (s1.hdma.remaining + 1) s1
  else gdmaLoop s.ref c (s.hdma.remaining + 1) s

/-- DMAEXEC (R370): the clocks consumed are the answer; 0 with no general DMA in progress. -/
def dmaExec (c : Nat) (s : State) : State :=
  match s.hdma.mode with
  | .general =>
    let t := gdmaRun c s
    respond (.clocks (t.ref - s.ref)) t
  | .none | .hblank => respond (.clocks 0) s

/-! ## The horizon -/

/-- `HSET` (R244). -/
def horizonSet : List Subsystem := [.timer, .ppu, .serial, .dma, .sound]

/-- Whether some subsystem of HSET reports fewer than 1 clock (R243, R282). -/
def overdue (s : State) : Bool := horizonSet.any (fun sub => decide (nextEvent sub s < 1))

/-- The minimum of the next events over HSET, at most INF (R243). -/
def horizonOf (s : State) : Nat := horizonSet.foldl (fun h sub => min h (nextEvent sub s)) inf

/-- The horizon computed and stored (R243). -/
def setHorizon (s : State) : State :=
  let s1 := reconcileAll s
  if overdue s1 then raise .nextevt s1 else { s1 with horizon := horizonOf s1 }

/-- HORIZON (R243). -/
def horizonCommand (s : State) : State :=
  let s1 := setHorizon s
  respond (.clocks s1.horizon) s1

/-! ## The break check, the clock commands -/

/-- BRKCHK (R242). -/
def breakCheck (s : State) : State := respond (.flag s.breakFlag) { s with breakFlag := false }

/-- CLKGET (R240). -/
def clockGet (s : State) : State := respond (.clocks s.ref) s

/-! ## CPU context -/

/-- CPUSET PC (R405). -/
def setPc (a : Addr) (s : State) : State := { s with cpuPc := a }

/-- CPUSET SP (R405). -/
def setSp (a : Addr) (s : State) : State := { s with cpuSp := a }

/-- CPUSET IME (R405). -/
def setIme (b : Bool) (s : State) : State := { s with ime := b }

/-- The speed switch (R482). -/
def speedSwitch (s : State) : State :=
  addClock s.params.speedSwitchClocks
    { s with doubleSpeed := !s.doubleSpeed, key1Prepare := false, haltMode := .run }

/-- Whether entering STOP switches the speed instead (R405, R482). -/
def switchesSpeed (s : State) : Bool :=
  s.params.speedSwitch == .onStop && s.family == .cgb && s.key1Prepare

/-- CPUSET HALT (R405). -/
def setHaltMode (m : HaltMode) (s : State) : State :=
  match m with
  | .stop => if switchesSpeed s then speedSwitch s else { s with haltMode := .stop }
  | .run => { s with haltMode := .run }
  | .halt => { s with haltMode := .halt }

/-! ## POWERON and MAPPERSET -/

/-- The model POWERON proceeds with (R400, R401): an unrecognized id logs CONFIG and becomes DMG. -/
def acceptModel (model : BitVec 3) (s : State) : HwModel × State :=
  match hwModelOfId model with
  | some m => (m, s)
  | none => (.dmg, logAnomaly .config none s)

/-- The CGB request POWERON proceeds with (R400, R402): refused and logged on hardware that is not CGB or AGB. -/
def acceptCgb (m : HwModel) (cgb : Bool) (s : State) : Bool × State :=
  if cgb && !isColorModel m then (false, logAnomaly .config none s) else (cgb, s)

/-- The fields POWERON sets to fixed values before the resets, and the selections it makes (R400, R433, R521). -/
def powerFixed (m : HwModel) (boot cgb : Bool) (s : State) : State :=
  let fam := if isColorModel m && cgb then Family.cgb else Family.dmg
  { s with
    params := { s.params with hwModel := m, bootRomPresent := boot, cgbMode := cgb }
    fault := none
    epoch := s.epoch + s.ref
    ref := 0
    segTarget := 0
    debt := 0
    burstStart := 0
    horizon := inf
    phase := .idle
    breakFlag := false
    bootEnabled := boot
    family := fam
    dispatchSet := sel fam boot
    renderer := rendererFor m cgb fam
    doubleSpeed := false
    key1Prepare := false
    ime := false
    haltMode := .run
    vbk := 0
    svbk := 0
    bootRom := if boot then s.bootImage else s.bootRom }

/-- The fields POWERON draws before the resets: IE, IF, every RAM byte (R400). -/
def powerDraws (s : State) : State :=
  let ie := drawByte s
  let iff := drawByte ie.2
  let vram := drawMem iff.2
  let wram := drawMem vram.2
  let oam := drawMem wram.2
  let hram := drawMem oam.2
  let shadow := drawMem hram.2
  { shadow.2 with
    ieReg := ie.1
    ifReg := iff.1
    vram := vram.1
    wram := wram.1
    oam := oam.1
    hram := hram.1
    ioShadow := shadow.1 }

/-- SUBRESET of every subsystem in the order of R400. -/
def resetAll (s : State) : State := lockOrder.foldl (fun s sub => subReset sub s) s

/-- The entry point, last: PC fixed, SP a draw (R400, R407). -/
def powerEntry (boot : Bool) (s : State) : State :=
  let sp := drawAddr s
  { sp.2 with cpuPc := if boot then 0x0000 else 0x0100, cpuSp := sp.1 }

/-- POWERON (R400), in its rule's order, so that the resets see the PC and the SP from before it: the run's log begins here
(R409, R491). The joypad is no subsystem and the spec gives it no reset, so
its own state stays as it is (DESIGN CHOICE, log 15). -/
def powerOn (model : BitVec 3) (boot cgb : Bool) (s : State) : State :=
  let m := acceptModel model { s with response := none, runStart := s.anomalies.length }
  let c := acceptCgb m.1 cgb m.2
  powerEntry boot (resetAll (powerDraws (powerFixed m.1 boot c.1 c.2)))

/-- MAPPERSET (R403): bind the variant; MBC6 logs UNSUPPORTED once (R457). R403 and R457 do not say whether the record
comes before or after the binding: it comes after it, so its ROM bank (R491) is the new mapper's (DESIGN CHOICE, log 24). -/
def mapperSet (kind : MapperKind) (s : State) : State :=
  let s1 := { s with mapper := mapperInit kind s }
  match kind with
  | .mbc6 => logOnce .unsupportedMbc6 s1
  | .none | .mbc1 | .mbc2 | .mbc3 | .mbc5 | .mbc7 | .mmm01 | .rumble | .camera => s1

/-! ## The host between commands -/

/-- An illegal word (R147, R497): the refusal mark, no other effect, nothing on the response port (DESIGN CHOICE, log 2). In a
faulted state, which R495 lets no later command change, it sets the mark too: a word the opcode table lacks is taken as no
command there (DESIGN CHOICE, log 3). -/
def refuseWord (s : State) : State := { s with refused := true, response := none }

/-- A host interaction that is not a command (R408). It acts in a faulted state as in any other: R495 speaks of commands
only (DESIGN CHOICE, log 1). -/
def hostAct (h : HostInput) (s : State) : State :=
  match h with
  | .command _ => s
  | .cartridge c => loadCartridge c s
  | .bootImage cells => { s with bootImage := Mem.ofCells 0 cells }
  | .joypad keys => moveJoypad keys s
  | .takeAudio => takeAudio s
  | .save => takeSave s

end Sys2Proof.Machine
end

