-- ==== Sys2Proof/Machine/BusCommands.lean ====
section
/-! DEFINITION. The meanings of the bus commands (R170-R173). -/

namespace Sys2Proof.Machine

/-- RD8 (R170). -/
def execRd8 (addr : Addr) (s : State) : Host.Outcome State Fault Refusal :=
  .next (command (readCommand addr) s)

/-- WR8 (R171). -/
def execWr8 (addr : Addr) (data : Byte) (s : State) : Host.Outcome State Fault Refusal :=
  .next (command (writeCommand addr data) s)

/-- RDREG8 (R172): RD8 for an address of the I/O page. -/
def execRdreg8 (addr : Addr) (s : State) : Host.Outcome State Fault Refusal :=
  .next (command (readCommand addr) s)

/-- WRREG8 (R173): WR8 for an address of the I/O page. -/
def execWrreg8 (addr : Addr) (data : Byte) (s : State) : Host.Outcome State Fault Refusal :=
  .next (command (writeCommand addr data) s)

end Sys2Proof.Machine
end

