-- ==== Sys2Proof/Machine/ClockCommands.lean ====
section
/-! DEFINITION. The meanings of the clock commands, the interrupt check and the DMA execution (R240-R243, R370, R404). -/

namespace Sys2Proof.Machine

/-- CLKGET (R240). -/
def execClkget (s : State) : Host.Outcome State Fault Refusal :=
  .next (command clockGet s)

/-- CLKADD (R241). -/
def execClkadd (n : Count) (s : State) : Host.Outcome State Fault Refusal :=
  .next (command (addClock n.toNat) s)

/-- BRKCHK (R242). -/
def execBrkchk (s : State) : Host.Outcome State Fault Refusal :=
  .next (command breakCheck s)

/-- IRQCHK (R404). -/
def execIrqchk (s : State) : Host.Outcome State Fault Refusal :=
  .next (command irqCheck s)

/-- DMAEXEC (R370). -/
def execDmaexec (n : Count) (s : State) : Host.Outcome State Fault Refusal :=
  .next (command (dmaExec n.toNat) s)

/-- HORIZON (R243). -/
def execHorizon (s : State) : Host.Outcome State Fault Refusal :=
  .next (command horizonCommand s)

end Sys2Proof.Machine
end

