-- ==== Sys2Proof/Machine/CpuCommands.lean ====
section
/-! DEFINITION. The meanings of the CPU context commands (R405). -/

namespace Sys2Proof.Machine

/-- CPUSET PC (R405). -/
def execCpusetPc (addr : Addr) (s : State) : Host.Outcome State Fault Refusal :=
  .next (command (setPc addr) s)

/-- CPUSET SP (R405). -/
def execCpusetSp (addr : Addr) (s : State) : Host.Outcome State Fault Refusal :=
  .next (command (setSp addr) s)

/-- CPUSET IME (R405). -/
def execCpusetIme (ime : Bool) (s : State) : Host.Outcome State Fault Refusal :=
  .next (command (setIme ime) s)

/-- CPUSET HALT RUN (R405). -/
def execCpusetHaltRun (s : State) : Host.Outcome State Fault Refusal :=
  .next (command (setHaltMode .run) s)

/-- CPUSET HALT HALT (R405). -/
def execCpusetHaltHalt (s : State) : Host.Outcome State Fault Refusal :=
  .next (command (setHaltMode .halt) s)

/-- CPUSET HALT STOP (R405): STOP, or the speed switch (R482). -/
def execCpusetHaltStop (s : State) : Host.Outcome State Fault Refusal :=
  .next (command (setHaltMode .stop) s)

end Sys2Proof.Machine
end

