-- ==== Sys2Proof/Machine/MapperCommands.lean ====
section
/-! DEFINITION. The meanings of the mapper bindings (R403). -/

namespace Sys2Proof.Machine

/-- MAPPERSET NONE (R403). -/
def execMappersetNone (s : State) : Host.Outcome State Fault Refusal :=
  .next (command (mapperSet .none) s)

/-- MAPPERSET MBC1 (R403). -/
def execMappersetMbc1 (s : State) : Host.Outcome State Fault Refusal :=
  .next (command (mapperSet .mbc1) s)

/-- MAPPERSET MBC2 (R403). -/
def execMappersetMbc2 (s : State) : Host.Outcome State Fault Refusal :=
  .next (command (mapperSet .mbc2) s)

/-- MAPPERSET MBC3 (R403). -/
def execMappersetMbc3 (s : State) : Host.Outcome State Fault Refusal :=
  .next (command (mapperSet .mbc3) s)

/-- MAPPERSET MBC5 (R403). -/
def execMappersetMbc5 (s : State) : Host.Outcome State Fault Refusal :=
  .next (command (mapperSet .mbc5) s)

/-- MAPPERSET MBC6 (R403). -/
def execMappersetMbc6 (s : State) : Host.Outcome State Fault Refusal :=
  .next (command (mapperSet .mbc6) s)

/-- MAPPERSET MBC7 (R403). -/
def execMappersetMbc7 (s : State) : Host.Outcome State Fault Refusal :=
  .next (command (mapperSet .mbc7) s)

/-- MAPPERSET MMM01 (R403). -/
def execMappersetMmm01 (s : State) : Host.Outcome State Fault Refusal :=
  .next (command (mapperSet .mmm01) s)

/-- MAPPERSET RUMBLE (R403). -/
def execMappersetRumble (s : State) : Host.Outcome State Fault Refusal :=
  .next (command (mapperSet .rumble) s)

/-- MAPPERSET CAMERA (R403). -/
def execMappersetCamera (s : State) : Host.Outcome State Fault Refusal :=
  .next (command (mapperSet .camera) s)

end Sys2Proof.Machine
end

