-- ==== Sys2Proof/Machine/ReconcilerCommands.lean ====
section
/-! DEFINITION. The meanings of the reconciler commands (R281-R283). -/

namespace Sys2Proof.Machine

/-- RECONCILE TIMER (R281). -/
def execReconcileTimer (n : Count) (s : State) : Host.Outcome State Fault Refusal :=
  .next (command (reconcile .timer n.toNat) s)

/-- RECONCILE SERIAL (R281). -/
def execReconcileSerial (n : Count) (s : State) : Host.Outcome State Fault Refusal :=
  .next (command (reconcile .serial n.toNat) s)

/-- RECONCILE PPU (R281). -/
def execReconcilePpu (n : Count) (s : State) : Host.Outcome State Fault Refusal :=
  .next (command (reconcile .ppu n.toNat) s)

/-- RECONCILE SOUND (R281). -/
def execReconcileSound (n : Count) (s : State) : Host.Outcome State Fault Refusal :=
  .next (command (reconcile .sound n.toNat) s)

/-- RECONCILE DMA (R281). -/
def execReconcileDma (n : Count) (s : State) : Host.Outcome State Fault Refusal :=
  .next (command (reconcile .dma n.toNat) s)

/-- RECONCILE CAMERA (R281). -/
def execReconcileCamera (n : Count) (s : State) : Host.Outcome State Fault Refusal :=
  .next (command (reconcile .camera n.toNat) s)

/-- NEXTEVT TIMER (R282). -/
def execNextevtTimer (s : State) : Host.Outcome State Fault Refusal :=
  .next (command (nextEvt .timer) s)

/-- NEXTEVT SERIAL (R282). -/
def execNextevtSerial (s : State) : Host.Outcome State Fault Refusal :=
  .next (command (nextEvt .serial) s)

/-- NEXTEVT PPU (R282). -/
def execNextevtPpu (s : State) : Host.Outcome State Fault Refusal :=
  .next (command (nextEvt .ppu) s)

/-- NEXTEVT SOUND (R282). -/
def execNextevtSound (s : State) : Host.Outcome State Fault Refusal :=
  .next (command (nextEvt .sound) s)

/-- NEXTEVT DMA (R282). -/
def execNextevtDma (s : State) : Host.Outcome State Fault Refusal :=
  .next (command (nextEvt .dma) s)

/-- NEXTEVT CAMERA (R282). -/
def execNextevtCamera (s : State) : Host.Outcome State Fault Refusal :=
  .next (command (nextEvt .camera) s)

/-- SUBRESET TIMER (R283). -/
def execSubresetTimer (s : State) : Host.Outcome State Fault Refusal :=
  .next (command (subReset .timer) s)

/-- SUBRESET SERIAL (R283). -/
def execSubresetSerial (s : State) : Host.Outcome State Fault Refusal :=
  .next (command (subReset .serial) s)

/-- SUBRESET PPU (R283). -/
def execSubresetPpu (s : State) : Host.Outcome State Fault Refusal :=
  .next (command (subReset .ppu) s)

/-- SUBRESET SOUND (R283). -/
def execSubresetSound (s : State) : Host.Outcome State Fault Refusal :=
  .next (command (subReset .sound) s)

/-- SUBRESET DMA (R283). -/
def execSubresetDma (s : State) : Host.Outcome State Fault Refusal :=
  .next (command (subReset .dma) s)

/-- SUBRESET CAMERA (R283). -/
def execSubresetCamera (s : State) : Host.Outcome State Fault Refusal :=
  .next (command (subReset .camera) s)

end Sys2Proof.Machine
end

