-- ==== Sys2Proof/Machine/Scheduler.lean ====
section
/-! DEFINITION. The event-horizon scheduler: the CPU step (R252), the burst (R247-R249, R253) and the segment
(R246, R250). -/

namespace Sys2Proof.Machine

/-! ## The CPU step -/

/-- The rule of a command a CPU step may issue; none for every other command (R252, R406). -/
def cpuRule (i : Instr) : Option (State → State) :=
  match i with
  | .rd8 a => some (readCommand a)
  | .wr8 a v => some (writeCommand a v)
  | .rdreg8 a => some (readCommand a)
  | .wrreg8 a v => some (writeCommand a v)
  | .clkget => some clockGet
  | .clkadd n => some (addClock n.toNat)
  | .dmaexec n => some (dmaExec n.toNat)
  | .cpusetPc a => some (setPc a)
  | .cpusetSp a => some (setSp a)
  | .cpusetIme b => some (setIme b)
  | .cpusetHaltRun => some (setHaltMode .run)
  | .cpusetHaltHalt => some (setHaltMode .halt)
  | .cpusetHaltStop => some (setHaltMode .stop)
  | .brkchk | .irqchk | .horizon
  | .reconcileTimer _ | .reconcileSerial _ | .reconcilePpu _ | .reconcileSound _ | .reconcileDma _ | .reconcileCamera _
  | .nextevtTimer | .nextevtSerial | .nextevtPpu | .nextevtSound | .nextevtDma | .nextevtCamera
  | .subresetTimer | .subresetSerial | .subresetPpu | .subresetSound | .subresetDma | .subresetCamera
  | .runfor _ | .poweron _ _ _
  | .mappersetNone | .mappersetMbc1 | .mappersetMbc2 | .mappersetMbc3 | .mappersetMbc5
  | .mappersetMbc6 | .mappersetMbc7 | .mappersetMmm01 | .mappersetRumble | .mappersetCamera => none

/-- Hand the response of the latest command to the CPU executor. -/
def collectReply (s : State) : State :=
  match s.response with
  | some r => { s with cpuReplies := s.cpuReplies ++ [r] }
  | none => s

/-- A CPU step issues a command (R252): a command outside the admitted set has no effect but its fault. -/
def cpuIssue (i : Instr) (s : State) : State :=
  match cpuRule i with
  | some f => collectReply (command f s)
  | none => raise .cpuProtocol s

/-- A CPU step issues a word; an illegal one leaves the refusal mark only (R147, log 3). -/
def cpuIssueWord (w : Word) (s : State) : State :=
  match decode w with
  | .ok i => cpuIssue i s
  | .error _ => { s with refused := true }

/-- The clocks a word's CLKADD offers (R252). -/
def clkaddOf (w : Word) : Nat :=
  match decode w with
  | .ok (.clkadd n) => n.toNat
  | _ => 0

/-- Issue the words `next` chooses, at most `k` of them; `issued` and `clocks` count the words and the CLKADD operands
so far. A fault ends the step (R495). -/
def cpuRun (next : Nat → List Response → Option Word) : Nat → Nat → Nat → State → Nat × State
  | 0, _, clocks, s => (clocks, s)
  | k + 1, issued, clocks, s =>
    match s.fault, next issued s.cpuReplies with
    | none, some w => cpuRun next k (issued + 1) (clocks + clkaddOf w) (cpuIssueWord w s)
    | _, _ => (clocks, s)

/-- The end of a step: it must have consumed at least 1 clock (R252); the port is the host's again (R149). -/
def cpuEnd (r : Nat × State) : State :=
  { (if r.1 = 0 then raise .cpuNoProgress r.2 else r.2) with response := none }

/-- One step of a supplied executor: the commands listed for it (log 10). -/
def cpuStepListed (ws : List Word) (rest : List (List Word)) (s : State) : State :=
  cpuEnd (cpuRun (fun i _ => ws[i]?) ws.length 0 0 { s with cpuTape := rest, cpuReplies := [] })

/-- One step of the executor that is a free parameter (R252, log 10). -/
def cpuStepFree (s : State) : State :=
  let t := cpuEnd (cpuRun (Config.cpuNext s.cpuCore s.cpuPc s.cpuSp s.ime)
    (Config.cpuLength s.cpuCore s.cpuPc s.cpuSp s.ime) 0 0 { s with cpuReplies := [] })
  { t with cpuCore := Config.cpuAfter s.cpuCore s.cpuPc s.cpuSp s.ime t.cpuReplies }

/-- `CPU.step()` (R252). -/
def cpuStep (s : State) : State :=
  match s.cpuTape with
  | ws :: rest => cpuStepListed ws rest s
  | [] => cpuStepFree s

/-! ## The burst -/

/-- Clocks from the current clock to the burst's end. -/
def burstLeft (s : State) : Nat := s.burstStart + s.horizon - s.ref

/-- The advance of a halted or stopped CPU to the burst's end (R253). -/
def haltedAdvance (s : State) : State := addClock (roundup (burstLeft s) s.params.haltGranule) s

/-- A burst step after its interrupt check (R248). -/
def afterCheck (s : State) : State :=
  if s.ref - s.burstStart ≥ s.horizon then s
  else
    match s.haltMode with
    | .run => cpuStep s
    | .halt | .stop => haltedAdvance s

/-- The HBlank-DMA stall (R248, R367): the clock first, then the stall is paid; an overflow leaves it (R495). -/
def payStall (s : State) : State :=
  unlessFaulted (addClock s.hdma.stall s) fun t => { t with hdma := { t.hdma with stall := 0 } }

/-- `burst_step()` (R248). -/
def burstStep (s : State) : State :=
  match s.hdma.mode with
  | .general => dmaExec (max 1 (burstLeft s)) s
  | .none | .hblank =>
    if s.hdma.stall > 0 then payStall s
    else unlessFaulted (irqCheck s) afterCheck

/-- The inner loop of R246: steps until a fault, the break flag, or the horizon. No two burst steps in a row leave
`ref` where it was (a general DMA of free blocks ends in one), so `2 × H + 2` steps are enough (log 21). -/
def burstLoop (h : Nat) : Nat → State → State
  | 0, s => s
  | k + 1, s =>
    unlessFaulted (burstStep s) fun s1 =>
      let s2 := { s1 with breakFlag := false }
      if s1.breakFlag || decide (s2.ref - s2.burstStart ≥ h) then s2 else burstLoop h k s2

/-- The clocks left in the segment. -/
def segmentLeft (s : State) : Nat := (s.segTarget - s.ref).toNat

/-- The start of a burst (R246, R247). -/
def startBurst (s : State) : State :=
  { s with horizon := min s.horizon (segmentLeft s), burstStart := s.ref, breakFlag := false }

/-- One burst: the horizon, the start, the inner loop (R246). -/
def burst (s : State) : State :=
  unlessFaulted (setHorizon s) fun s1 =>
    let s2 := startBurst s1
    burstLoop s2.horizon (2 * s2.horizon + 2) s2

/-- The outer loop of R246. Each burst advances `ref`, so as many bursts as clocks are left are enough. -/
def segmentLoop : Nat → State → State
  | 0, s => s
  | k + 1, s => unlessFaulted s fun s => if (s.ref : Int) < s.segTarget then segmentLoop k (burst s) else s

/-! ## The segment -/

/-- Lower every lagging counter by `d`. -/
def Lasts.rebase (l : Lasts) (d : Nat) : Lasts where
  timer := l.timer - d
  serial := l.serial - d
  ppu := l.ppu - d
  sound := l.sound - d
  dma := l.dma - d
  camera := l.camera - d

/-- The rebase of R250. The debt (and the target it is taken from) is a mathematical integer (R10): the spec gives no rule
for one that leaves 32 bits, and nothing is raised here (DESIGN CHOICE, log 23). -/
def rebaseClock (s : State) : State :=
  { s with
    debt := s.ref - s.segTarget
    epoch := s.epoch + s.ref
    ref := 0
    last := s.last.rebase s.ref
    burstStart := 0 }

/-- `end_segment()` (R250). -/
def endSegment (s : State) : State := rebaseClock (reconcileAll s)

/-- The start of a segment: the overrun of the previous one is paid first (R246). -/
def startSegment (n : Nat) (s : State) : State := { s with phase := .burst, segTarget := (n : Int) - s.debt }

/-- RUNFOR (R246). -/
def runFor (n : Nat) (s : State) : State :=
  let s1 := startSegment n s
  { endSegment (segmentLoop (segmentLeft s1) s1) with phase := .idle, response := none }

end Sys2Proof.Machine
end

