-- ==== Sys2Proof/Machine/SystemCommands.lean ====
section
/-! DEFINITION. The meanings of RUNFOR and POWERON (R246, R400). -/

namespace Sys2Proof.Machine

/-- RUNFOR (R246). -/
def execRunfor (n : Count) (s : State) : Host.Outcome State Fault Refusal :=
  .next (command (runFor n.toNat) s)

/-- POWERON (R400): the one command that runs in a faulted state, and clears the fault. -/
def execPoweron (model : BitVec 3) (boot cgb : Bool) (s : State) : Host.Outcome State Fault Refusal :=
  .next (powerOn model boot cgb s)

end Sys2Proof.Machine
end

