-- ==== Sys2Proof/Machine/Dispatch.lean ====
section
/-! DEFINITION. The dispatch of the commands to their meanings. -/

namespace Sys2Proof.Machine

def exec (i : Instr) (s : State) : Host.Outcome State Fault Refusal :=
  match i with
  | .rd8 addr => Sys2Proof.Machine.execRd8 addr s
  | .wr8 addr data => Sys2Proof.Machine.execWr8 addr data s
  | .rdreg8 addr => Sys2Proof.Machine.execRdreg8 addr s
  | .wrreg8 addr data => Sys2Proof.Machine.execWrreg8 addr data s
  | .clkget => Sys2Proof.Machine.execClkget s
  | .clkadd n => Sys2Proof.Machine.execClkadd n s
  | .brkchk => Sys2Proof.Machine.execBrkchk s
  | .irqchk => Sys2Proof.Machine.execIrqchk s
  | .dmaexec n => Sys2Proof.Machine.execDmaexec n s
  | .horizon => Sys2Proof.Machine.execHorizon s
  | .reconcileTimer n => Sys2Proof.Machine.execReconcileTimer n s
  | .reconcileSerial n => Sys2Proof.Machine.execReconcileSerial n s
  | .reconcilePpu n => Sys2Proof.Machine.execReconcilePpu n s
  | .reconcileSound n => Sys2Proof.Machine.execReconcileSound n s
  | .reconcileDma n => Sys2Proof.Machine.execReconcileDma n s
  | .reconcileCamera n => Sys2Proof.Machine.execReconcileCamera n s
  | .nextevtTimer => Sys2Proof.Machine.execNextevtTimer s
  | .nextevtSerial => Sys2Proof.Machine.execNextevtSerial s
  | .nextevtPpu => Sys2Proof.Machine.execNextevtPpu s
  | .nextevtSound => Sys2Proof.Machine.execNextevtSound s
  | .nextevtDma => Sys2Proof.Machine.execNextevtDma s
  | .nextevtCamera => Sys2Proof.Machine.execNextevtCamera s
  | .subresetTimer => Sys2Proof.Machine.execSubresetTimer s
  | .subresetSerial => Sys2Proof.Machine.execSubresetSerial s
  | .subresetPpu => Sys2Proof.Machine.execSubresetPpu s
  | .subresetSound => Sys2Proof.Machine.execSubresetSound s
  | .subresetDma => Sys2Proof.Machine.execSubresetDma s
  | .subresetCamera => Sys2Proof.Machine.execSubresetCamera s
  | .runfor n => Sys2Proof.Machine.execRunfor n s
  | .poweron model boot cgb => Sys2Proof.Machine.execPoweron model boot cgb s
  | .mappersetNone => Sys2Proof.Machine.execMappersetNone s
  | .mappersetMbc1 => Sys2Proof.Machine.execMappersetMbc1 s
  | .mappersetMbc2 => Sys2Proof.Machine.execMappersetMbc2 s
  | .mappersetMbc3 => Sys2Proof.Machine.execMappersetMbc3 s
  | .mappersetMbc5 => Sys2Proof.Machine.execMappersetMbc5 s
  | .mappersetMbc6 => Sys2Proof.Machine.execMappersetMbc6 s
  | .mappersetMbc7 => Sys2Proof.Machine.execMappersetMbc7 s
  | .mappersetMmm01 => Sys2Proof.Machine.execMappersetMmm01 s
  | .mappersetRumble => Sys2Proof.Machine.execMappersetRumble s
  | .mappersetCamera => Sys2Proof.Machine.execMappersetCamera s
  | .cpusetPc addr => Sys2Proof.Machine.execCpusetPc addr s
  | .cpusetSp addr => Sys2Proof.Machine.execCpusetSp addr s
  | .cpusetIme ime => Sys2Proof.Machine.execCpusetIme ime s
  | .cpusetHaltRun => Sys2Proof.Machine.execCpusetHaltRun s
  | .cpusetHaltHalt => Sys2Proof.Machine.execCpusetHaltHalt s
  | .cpusetHaltStop => Sys2Proof.Machine.execCpusetHaltStop s

end Sys2Proof.Machine
end

