-- ==== Sys2Proof/Machine/Step.lean ====
section
/-! DEFINITION. One step: the block takes the host's next interaction (R408); a command word is decoded and run, an
illegal word leaves the refusal mark (R147), the other interactions act in a faulted state too (log 1), and with nothing from
the host the block waits (log 1). -/

namespace Sys2Proof.Machine

def step (s : State) : Host.Outcome State Fault Refusal :=
  match s.inputs with
  | [] => .next s
  | .command w :: rest =>
    match decode w with
    | .ok i => exec i { s with inputs := rest }
    | .error _ => .next (refuseWord { s with inputs := rest })
  | .cartridge c :: rest => .next (hostAct (.cartridge c) { s with inputs := rest })
  | .bootImage cells :: rest => .next (hostAct (.bootImage cells) { s with inputs := rest })
  | .joypad keys :: rest => .next (hostAct (.joypad keys) { s with inputs := rest })
  | .takeAudio :: rest => .next (hostAct .takeAudio { s with inputs := rest })
  | .save :: rest => .next (hostAct .save { s with inputs := rest })

/-- The host sends the command word of a table row's bits next: step takes the queue's first interaction. -/
def State.withFetchWord (s : State) (nbits w : Nat) : State :=
  { s with inputs := .command (tableWord nbits w) :: s.inputs }

end Sys2Proof.Machine
end

