-- ==== Sys2Proof/Safety.lean ====
section
/-! DEFINITION. What counts as a safe run and a sound state, in the spec's terms: an end state (R409), the invariants
(R33-R61, R288), the conditions statements are made under, and what each kind of command may change. -/

namespace Sys2Proof.Safety

open Sys2Proof.Machine

/-- A state a run may end in (R409): idle, without a fault and without the refusal mark. -/
def EndState (s : State) : Prop := s.phase = .idle ∧ s.fault = none ∧ s.refused = false

/-! ## Conditions on a state -/

/-- The block may take a command: no fault stands (R495). -/
abbrev Ready (s : State) : Prop := s.fault = none

/-- The CPU may access the bus: no fault stands and no general DMA owns the CPU (R374). -/
abbrev CpuMay (s : State) : Prop := s.fault = none ∧ s.hdma.mode ≠ .general

/-- Every subsystem is at the reference clock. -/
def Settled (s : State) : Prop := ∀ sub : Subsystem, s.last.get sub = s.ref

/-- No subsystem sets an IF bit by advancing: no PPU or serial model is supplied, the timer is disabled and counts
nothing down (R289, R313). -/
def Quiet (s : State) : Prop :=
  s.params.hasPpu = false ∧ s.params.hasSerial = false ∧
    s.timer.tac.getLsbD 2 = false ∧ s.timer.reloadCd = 0 ∧ s.timer.irqCd = 0

/-- The state a command's rule starts from: the response port empty (R149). -/
abbrev begun (s : State) : State := { s with response := none }

/-- The state a bus access sees: every subsystem brought to the clock (R174). -/
abbrev current (s : State) : State := reconcileAll (begun s)

/-- Whether the OAM-DMA bus conflict hides the bytes of an address (R102). -/
abbrev conflicts (s : State) (a : Addr) : Prop :=
  s.params.oamDmaBusConflict = true ∧ s.odma.active = true ∧ a.toNat < 0xFF00

/-! ## Commands by their operands -/

/-- RD8 or RDREG8 of an address (R170, R172). -/
abbrev ReadsBus (i : Instr) (a : Addr) : Prop := i = .rd8 a ∨ i = .rdreg8 a

/-- WR8 or WRREG8 of a byte to an address (R171, R173). -/
abbrev WritesBus (i : Instr) (a : Addr) (v : Byte) : Prop := i = .wr8 a v ∨ i = .wrreg8 a v

/-- RECONCILE of a subsystem (R281). -/
def reconcileOf (sub : Subsystem) (n : Count) : Instr :=
  match sub with
  | .timer => .reconcileTimer n
  | .serial => .reconcileSerial n
  | .ppu => .reconcilePpu n
  | .sound => .reconcileSound n
  | .dma => .reconcileDma n
  | .camera => .reconcileCamera n

/-- NEXTEVT of a subsystem (R282). -/
def nextevtOf (sub : Subsystem) : Instr :=
  match sub with
  | .timer => .nextevtTimer
  | .serial => .nextevtSerial
  | .ppu => .nextevtPpu
  | .sound => .nextevtSound
  | .dma => .nextevtDma
  | .camera => .nextevtCamera

/-- SUBRESET of a subsystem (R283). -/
def subresetOf (sub : Subsystem) : Instr :=
  match sub with
  | .timer => .subresetTimer
  | .serial => .subresetSerial
  | .ppu => .subresetPpu
  | .sound => .subresetSound
  | .dma => .subresetDma
  | .camera => .subresetCamera

/-- I/O addresses that have a row for both families in R56 or R57. -/
def RegisterOfBoth (a : Addr) : Prop :=
  (0xFF00 ≤ a.toNat ∧ a.toNat ≤ 0xFF02) ∨ (0xFF04 ≤ a.toNat ∧ a.toNat ≤ 0xFF07) ∨ a = 0xFF0F ∨
  (0xFF10 ≤ a.toNat ∧ a.toNat ≤ 0xFF26) ∨ (0xFF30 ≤ a.toNat ∧ a.toNat ≤ 0xFF3F) ∨
  (0xFF40 ≤ a.toNat ∧ a.toNat ≤ 0xFF4B) ∨ a = 0xFF50

/-- I/O addresses that have a row for the CGB family only in R56 or R57. -/
def RegisterOfCgb (a : Addr) : Prop :=
  a = 0xFF4D ∨ a = 0xFF4F ∨ (0xFF51 ≤ a.toNat ∧ a.toNat ≤ 0xFF55) ∨ (0xFF68 ≤ a.toNat ∧ a.toNat ≤ 0xFF6B) ∨ a = 0xFF70

/-- A collaborator owns an address of the I/O page (R57). -/
def OwnsIo (s : State) (c : Collab) (a : Addr) : Prop :=
  0xFF00 ≤ a.toNat ∧ a.toNat ≤ 0xFF7F ∧ ioRegOf s a = .collab c

/-- What a register handler is given of `io_shadow`: the bytes of the addresses its collaborator owns, 0 elsewhere (R58). -/
def ShadowSeen (s : State) (c : Collab) (seen : Addr → Byte) : Prop :=
  ∀ a, (OwnsIo s c a → seen a = s.ioShadow.read (a.toNat - 0xFF00)) ∧ (¬ OwnsIo s c a → seen a = 0)

/-- A register handler of `c` that keeps `bytes` leaves `after` in `io_shadow` (R58): the byte it keeps at each address its
collaborator owns (one byte for an address), and every other byte as before. -/
def ShadowKept (s : State) (c : Collab) (bytes : List (Addr × Byte)) (after : Mem) : Prop :=
  (∀ p ∈ bytes, OwnsIo s c p.1 → (∀ q ∈ bytes, q.1 = p.1 → q.2 = p.2) → s.ioShadow.wf = true →
    after.read (p.1.toNat - 0xFF00) = p.2) ∧
  (∀ k, (∀ p ∈ bytes, OwnsIo s c p.1 → k ≠ p.1.toNat - 0xFF00) → after.read k = s.ioShadow.read k)

/-- External RAM is enabled and its bank is `b`, in the default layouts (R451-R453) and on MMM01 and Rumble, whose bank
registers are the model's (R450, log 16); an MBC3's select above 3 is no RAM bank, and an MBC1 uses its upper bits in mode 1
(log 17). -/
def RamSelected (m : Mapper) (b : Nat) : Prop :=
  (m = .none ∧ b = 0) ∨
  (∃ m1, m = .mbc1 m1 ∧ m1.ramEnabled = true ∧ b = if m1.mode then m1.upper.toNat else 0) ∨
  (∃ m3, m = .mbc3 m3 ∧ m3.ramEnabled = true ∧ m3.select.toNat ≤ 3 ∧ b = m3.select.toNat) ∨
  (∃ m5, m = .mbc5 m5 ∧ m5.ramEnabled = true ∧ b = m5.ramBank.toNat) ∨
  (∃ r, (m = .mmm01 r ∨ m = .rumble r) ∧ r.ramEnabled = true ∧ b = r.ramBank)

/-- The time a clock's registers hold, in seconds (R454, log 18). -/
def rtcTime (r : Rtc) : Nat := ((r.days.toNat * 24 + r.hours.toNat) * 60 + r.minutes.toNat) * 60 + r.seconds.toNat

/-- An MBC3 with RAM enabled shows a clock register in its window, and its latched byte is `b` (R451, R454): select values
0x8 to 0xC, in the register order and packing of log 18. -/
def ClockByte (m : Mapper) (b : Byte) : Prop :=
  ∃ m3, m = .mbc3 m3 ∧ m3.ramEnabled = true ∧
    ((m3.select = 0x8 ∧ b = m3.latched.seconds) ∨ (m3.select = 0x9 ∧ b = m3.latched.minutes) ∨
     (m3.select = 0xA ∧ b = m3.latched.hours) ∨ (m3.select = 0xB ∧ b = m3.latched.days.extractLsb' 0 8) ∨
     (m3.select = 0xC ∧ b = BitVec.ofBool m3.latched.carry ++ BitVec.ofBool m3.latched.halt ++ (0 : BitVec 5) ++
        m3.latched.days.extractLsb' 8 1))

/-- External RAM is disabled (R450, R451); MBC6 is left out, whose reads are draws (R457), and so is no mapper, whose RAM
is always enabled (R453). An MBC3 whose select R451 gives no meaning (0x4-0x7, 0xD-0xF) counts as disabled (log 18). -/
def RamDisabled (m : Mapper) : Prop :=
  (∃ m1, m = .mbc1 m1 ∧ m1.ramEnabled = false) ∨ (∃ m3, m = .mbc3 m3 ∧ m3.ramEnabled = false) ∨
  (∃ m3, m = .mbc3 m3 ∧ ((4 ≤ m3.select.toNat ∧ m3.select.toNat ≤ 7) ∨ 0xD ≤ m3.select.toNat)) ∨
  (∃ m5, m = .mbc5 m5 ∧ m5.ramEnabled = false) ∨ (∃ m7, m = .mbc7 m7 ∧ m7.banks.ramEnabled = false) ∨
  (∃ r, (m = .mbc2 r ∨ m = .mmm01 r ∨ m = .rumble r ∨ m = .camera r ∨ ∃ kind, m = .supplied kind r) ∧ r.ramEnabled = false)

/-- `b` is the byte a DMA engine reads at bus address `p`, where the cartridge has one there and it is no draw (R354): the
region decode of R93-R98 without the PPU's blocking and without the bus conflict. External RAM is that of the default
layouts with the MBC3's latched clock, of MBC2, MMM01 and Rumble, and of any mapper whose RAM is disabled. -/
def SourceByte (s : State) (p : Nat) (b : Byte) : Prop :=
  (p ≤ 0x3FFF ∧ s.bootEnabled = true ∧ overlaid s p = true ∧ b = s.bootRom.read p) ∨
  (p ≤ 0x3FFF ∧ ¬ (s.bootEnabled = true ∧ overlaid s p = true) ∧ (∀ m, s.mapper ≠ .mbc6 m) ∧
    romLow s < s.params.romBanks ∧ b = s.rom.read (romLow s * 0x4000 + p)) ∨
  (0x4000 ≤ p ∧ p ≤ 0x7FFF ∧ (∀ m, s.mapper ≠ .mbc6 m) ∧ romCurr s < s.params.romBanks ∧
    b = s.rom.read (romCurr s * 0x4000 + (p - 0x4000))) ∨
  (0x8000 ≤ p ∧ p ≤ 0x9FFF ∧ b = s.vram.read ((if s.family = .cgb then s.vbk.toNat else 0) * 0x2000 + (p - 0x8000))) ∨
  (0xA000 ≤ p ∧ p ≤ 0xBFFF ∧
    ((∃ k, RamSelected s.mapper k ∧ k < s.params.eramBanks ∧ b = s.eram.read (k * 0x2000 + (p - 0xA000))) ∨
     ClockByte s.mapper b ∨
     (∃ m, s.mapper = .mbc2 m ∧ m.ramEnabled = true ∧ m.ramBank < s.params.eramBanks ∧
        b = 0xF0 ||| (s.eram.read (m.ramBank * 0x2000 + (p - 0xA000)) &&& 0x0F)) ∨
     (((∃ k, RamSelected s.mapper k ∧ s.params.eramBanks ≤ k) ∨
        (∃ m, s.mapper = .mbc2 m ∧ m.ramEnabled = true ∧ s.params.eramBanks ≤ m.ramBank) ∨ RamDisabled s.mapper) ∧
        b = 0xFF))) ∨
  (0xC000 ≤ p ∧ p ≤ 0xDFFF ∧ b = s.wram.read (wramIndex s p)) ∨
  (0xE000 ≤ p ∧ p ≤ 0xFDFF ∧ b = s.wram.read (wramIndex s (p - 0x2000)))

/-- MAPPERSET of a kind (R403). -/
def mappersetOf (kind : MapperKind) : Instr :=
  match kind with
  | .none => .mappersetNone
  | .mbc1 => .mappersetMbc1
  | .mbc2 => .mappersetMbc2
  | .mbc3 => .mappersetMbc3
  | .mbc5 => .mappersetMbc5
  | .mbc6 => .mappersetMbc6
  | .mbc7 => .mappersetMbc7
  | .mmm01 => .mappersetMmm01
  | .rumble => .mappersetRumble
  | .camera => .mappersetCamera

/-- POWERON, the one command a faulted state still obeys (R495). -/
def isPoweron (i : Instr) : Prop := ∃ m b c, i = .poweron m b c

/-- RUNFOR, the one command that rebases the clock (R250). -/
def isRunfor (i : Instr) : Prop := ∃ n, i = .runfor n

/-- A non-zero "must be 0" field of the opcode map (R145, R146). -/
def nonzeroReserved (op sub data addr n : Nat) : Prop :=
  ((op = 0x01 ∨ op = 0x03) ∧ (sub ≠ 0 ∨ data ≠ 0)) ∨
  ((op = 0x02 ∨ op = 0x04 ∨ op = 0x06 ∨ op = 0x09 ∨ op = 0x0E) ∧ sub ≠ 0) ∨
  ((op = 0x05 ∨ op = 0x07 ∨ op = 0x08 ∨ op = 0x0A) ∧ (sub ≠ 0 ∨ n ≠ 0)) ∨
  ((op = 0x0C ∨ op = 0x0D) ∧ n ≠ 0) ∨
  (op = 0x0F ∧ (data ≥ 4 ∨ addr ≠ 0)) ∨
  (op = 0x10 ∧ (sub ≠ 0 ∨ addr ≠ 0)) ∨
  (op = 0x11 ∧ ((sub ≤ 1 ∧ data ≠ 0) ∨ (sub = 2 ∧ (data ≥ 2 ∨ addr ≠ 0)) ∨ (sub = 3 ∧ addr ≠ 0)))

/-- The illegal words, listed as R147 lists them. -/
def illegalWord (w : Word) : Prop :=
  let op := w.toNat / 2 ^ 27
  let sub := w.toNat / 2 ^ 24 % 8
  let data := w.toNat / 2 ^ 16 % 256
  let addr := w.toNat % 2 ^ 16
  let n := w.toNat % 2 ^ 24
  op = 0x00 ∨ op ≥ 0x12 ∨
  ((op = 0x0B ∨ op = 0x0C ∨ op = 0x0D) ∧ sub ≥ 6) ∨
  (op = 0x10 ∧ data ≥ 10) ∨
  (op = 0x11 ∧ (sub ≥ 4 ∨ (sub = 3 ∧ data ≥ 3))) ∨
  nonzeroReserved op sub data addr n ∨
  ((op = 0x03 ∨ op = 0x04) ∧ addr / 256 ≠ 0xFF)

/-! ## Invariants -/

/-- R33, R34, R288: the clock stays in its range, and no subsystem is ahead of it. -/
def CounterBounds (s : State) : Prop := s.ref ≤ inf ∧ ∀ sub : Subsystem, s.last.get sub ≤ s.ref

/-- R41: the dispatch set is the one `sel` gives. -/
def DispatchSelected (s : State) : Prop := s.dispatchSet = sel s.family s.bootEnabled

/-- R49: every array of the block is in its canonical form. -/
def MemoryCanonical (s : State) : Prop :=
  s.rom.wf = true ∧ s.eram.wf = true ∧ s.vram.wf = true ∧ s.wram.wf = true ∧ s.oam.wf = true ∧ s.hram.wf = true ∧
    s.ioShadow.wf = true ∧ s.bootRom.wf = true ∧ s.bootImage.wf = true

/-- R46-R48: the countdowns and the DMA counters stay in their ranges. -/
def FieldRanges (s : State) : Prop :=
  s.timer.reloadCd ≤ 4 ∧ s.timer.irqCd ≤ 4 ∧ s.odma.copied ≤ 160 ∧ s.odma.elapsed ≤ odmaClocks ∧
    (s.odma.active = true → s.odma.elapsed < odmaClocks ∧ s.odma.copied = odmaTarget s.odma.elapsed) ∧
    s.hdma.remaining ≤ 2048 ∧ s.hdma.remaining % 16 = 0 ∧ s.hdma.copyLeft = 0

/-! ## Frames: `t` is `s` but for the named fields -/

/-- What advancing subsystems may change (R289): their own fields, IF, OAM, VRAM, external RAM, and the bookkeeping. -/
def AdvanceOnly (s t : State) : Prop :=
  t = { s with
      timer := t.timer, ifReg := t.ifReg, oam := t.oam, odma := t.odma, draws := t.draws, vram := t.vram,
      hdma := t.hdma, ppu := t.ppu, sound := t.sound, serial := t.serial, anomalies := t.anomalies,
      camera := t.camera, eram := t.eram }

/-- What a reconciliation may change: what advancing may, and the lagging counters (R284). -/
def ReconcileOnly (s t : State) : Prop :=
  t = { s with
      timer := t.timer, ifReg := t.ifReg, oam := t.oam, odma := t.odma, draws := t.draws, vram := t.vram,
      hdma := t.hdma, ppu := t.ppu, sound := t.sound, serial := t.serial, anomalies := t.anomalies,
      camera := t.camera, eram := t.eram, last := t.last }

/-- What a bus access may change: what a reconciliation may, and what the register and mapper handlers write (R170, R171, R190-R192). -/
def AccessOnly (s t : State) : Prop :=
  t = { s with
      timer := t.timer, ifReg := t.ifReg, oam := t.oam, odma := t.odma, draws := t.draws, vram := t.vram,
      hdma := t.hdma, ppu := t.ppu, sound := t.sound, serial := t.serial, anomalies := t.anomalies,
      camera := t.camera, eram := t.eram, last := t.last, bootEnabled := t.bootEnabled,
      dispatchSet := t.dispatchSet, ieReg := t.ieReg, key1Prepare := t.key1Prepare, vbk := t.vbk, svbk := t.svbk,
      joypad := t.joypad, ioShadow := t.ioShadow, mapper := t.mapper, wram := t.wram, hram := t.hram,
      breakFlag := t.breakFlag }

/-- What DMAEXEC and a bus command may change: what an access may, the clock, the response port, the fault. -/
def ClockOnly (s t : State) : Prop :=
  t = { s with
      timer := t.timer, ifReg := t.ifReg, oam := t.oam, odma := t.odma, draws := t.draws, vram := t.vram,
      hdma := t.hdma, ppu := t.ppu, sound := t.sound, serial := t.serial, anomalies := t.anomalies,
      camera := t.camera, eram := t.eram, last := t.last, bootEnabled := t.bootEnabled,
      dispatchSet := t.dispatchSet, ieReg := t.ieReg, key1Prepare := t.key1Prepare, vbk := t.vbk, svbk := t.svbk,
      joypad := t.joypad, ioShadow := t.ioShadow, mapper := t.mapper, wram := t.wram, hram := t.hram,
      breakFlag := t.breakFlag, fault := t.fault, response := t.response, ref := t.ref }

/-- What an interrupt check may change (R404, R477): also IME, the CPU context and the halt mode. -/
def CheckOnly (s t : State) : Prop :=
  t = { s with
      timer := t.timer, ifReg := t.ifReg, oam := t.oam, odma := t.odma, draws := t.draws, vram := t.vram,
      hdma := t.hdma, ppu := t.ppu, sound := t.sound, serial := t.serial, anomalies := t.anomalies,
      camera := t.camera, eram := t.eram, last := t.last, bootEnabled := t.bootEnabled,
      dispatchSet := t.dispatchSet, ieReg := t.ieReg, key1Prepare := t.key1Prepare, vbk := t.vbk, svbk := t.svbk,
      joypad := t.joypad, ioShadow := t.ioShadow, mapper := t.mapper, wram := t.wram, hram := t.hram,
      breakFlag := t.breakFlag, fault := t.fault, response := t.response, ref := t.ref, ime := t.ime,
      cpuPc := t.cpuPc, cpuSp := t.cpuSp, haltMode := t.haltMode }

/-- What a burst step may change (R248, R252): also the speed, the horizon, the burst start, the CPU executor, the refusal mark. -/
def BurstOnly (s t : State) : Prop :=
  t = { s with
      timer := t.timer, ifReg := t.ifReg, oam := t.oam, odma := t.odma, draws := t.draws, vram := t.vram,
      hdma := t.hdma, ppu := t.ppu, sound := t.sound, serial := t.serial, anomalies := t.anomalies,
      camera := t.camera, eram := t.eram, last := t.last, bootEnabled := t.bootEnabled,
      dispatchSet := t.dispatchSet, ieReg := t.ieReg, key1Prepare := t.key1Prepare, vbk := t.vbk, svbk := t.svbk,
      joypad := t.joypad, ioShadow := t.ioShadow, mapper := t.mapper, wram := t.wram, hram := t.hram,
      breakFlag := t.breakFlag, fault := t.fault, response := t.response, ref := t.ref, ime := t.ime,
      cpuPc := t.cpuPc, cpuSp := t.cpuSp, haltMode := t.haltMode, doubleSpeed := t.doubleSpeed,
      horizon := t.horizon, burstStart := t.burstStart, cpuTape := t.cpuTape, cpuCore := t.cpuCore,
      cpuReplies := t.cpuReplies, refused := t.refused }

end Sys2Proof.Safety
end

