-- ==== Sys2Proof/Certificates/Slice0/Obligations.lean ====
section
/-! DEFINITION. The statements about the block, each from the numbered rules its docstring names. -/

open Sys2Proof Sys2Proof.Machine Sys2Proof.Safety

/-! ## Encoding -/

/-- R152: the encoding examples, word by word. -/
def Obligations.EncodingExamplesDecode : Prop :=
  decode 0x0800C000 = .ok (.rd8 0xC000) ∧
  decode 0x10C0FF46 = .ok (.wr8 0xFF46 0xC0) ∧
  decode 0x2005FF07 = .ok (.wrreg8 0xFF07 0x05) ∧
  decode 0x1800FF05 = .ok (.rdreg8 0xFF05) ∧
  decode 0x30000010 = .ok (.clkadd 16) ∧
  decode 0x40000000 = .ok .irqchk ∧
  decode 0x58000284 = .ok (.reconcileTimer 644) ∧
  decode 0x78000000 = .ok (.poweron 0 false false) ∧
  decode 0x7C030000 = .ok (.poweron 4 true true) ∧
  decode 0x80010000 = .ok .mappersetMbc1 ∧
  decode 0x8900FFFE = .ok (.cpusetSp 0xFFFE) ∧
  decode 0x8B010000 = .ok .cpusetHaltHalt

/-- R140, R145, R146: every well-formed command, at every operand value, decodes back from its encoding. -/
def Obligations.DecodeInvertsEncode : Prop :=
  ∀ i : Instr, i.wellFormed = true → decode (encode i) = .ok i

/-- R145, R148: a word the decoder accepts is the one encoding of a well-formed command. -/
def Obligations.AcceptedWordIsTheEncoding : Prop :=
  ∀ (w : Word) (i : Instr), decode w = .ok i → encode i = w ∧ i.wellFormed = true

/-- R145-R147: the decoder refuses exactly the words R147 lists. -/
def Obligations.DecoderRefusesExactlyTheIllegalWords : Prop :=
  ∀ w : Word, (∃ e, decode w = .error e) ↔ illegalWord w

/-- R497: an illegal word sets the refusal mark and has no other effect, is no fault, and no later interaction, POWERON
included, clears the mark, so the run has no end state. That the port is then empty, that the word comes from the host's
queue, and that a word inside a CPU step, and in a faulted state, is refused alike are the model's (logs 1, 2, 3). -/
def Obligations.RefusedWordMarksTheRun : Prop :=
  (∀ (s : State) (w : Word) (rest : List HostInput), s.inputs = .command w :: rest → illegalWord w →
    step s = .next { s with inputs := rest, refused := true, response := none }) ∧
  (∀ s t : State, step s = .next t → s.refused = true → t.refused = true ∧ ¬ EndState t)

/-! ## One step -/

/-- A command word at the head of the host's queue is decoded and run (R149, R408, log 1). -/
def Obligations.StepRunsTheDecodedCommand : Prop :=
  ∀ (s : State) (w : Word) (rest : List HostInput) (i : Instr),
    s.inputs = .command w :: rest → decode w = .ok i → step s = exec i { s with inputs := rest }

/-- R408, R441, R447, R460: what the host does between commands. A cartridge replaces ROM, external RAM, the bank
counts and the RTC block, and nothing else: the bytes it gives read back, and external RAM that no save byte supplies
is a fresh filling of draws. A boot image replaces the image. Taking audio or a save puts a copy on the port: the
save's bytes are those of external RAM, its RTC block the running clock of an emulated MBC3: that it is the running
clock and not the latched copy (R460), and that every MBC3 has a clock (R336), so that every save of one holds a block,
are the model's (log 18). Moving the joypad lines changes the joypad's own state and at most IF[4], as its model says.
The queue, in which the block waits when it is empty, is the model's (log 1), and so are that these interactions act in
a faulted state (log 1), the port (log 2), the 0x00 of ROM and image bytes not supplied (log 8), the joypad without a
model (log 15), the zero clock registers of a cartridge without a block (log 18), the mapper that a cartridge leaves as
it is when one is bound already (log 8) and the silence without a sound model (log 34). -/
def Obligations.HostInteractionsBetweenCommands : Prop :=
  (∀ s : State, s.inputs = [] → step s = .next s) ∧
  (∀ (s : State) (c : Cartridge) (rest : List HostInput), s.inputs = .cartridge c :: rest →
    ∃ t, step s = .next t ∧
      t = { s with
        inputs := rest, rom := t.rom, eram := t.eram, draws := t.draws
        params := { s.params with romBanks := c.romBanks, eramBanks := c.eramBanks }
        cartRtc := c.rtc.getD .zero } ∧
      (∀ a v, (a, v) ∈ c.rom → (∀ p ∈ c.rom, p.1 = a → p.2 = v) → t.rom.read a = v) ∧
      (∀ a, (∀ p ∈ c.rom, p.1 ≠ a) → t.rom.read a = 0x00) ∧
      (∀ a v, (a, v) ∈ c.saveRam → (∀ p ∈ c.saveRam, p.1 = a → p.2 = v) → t.eram.read a = v) ∧
      (∀ a, (∀ p ∈ c.saveRam, p.1 ≠ a) → t.eram.read a = Config.ramDraw (s.draws + 1) a)) ∧
  (∀ (s : State) (cells : List Host.Cell) (rest : List HostInput), s.inputs = .bootImage cells :: rest →
    step s = .next { s with inputs := rest, bootImage := Mem.ofCells 0 cells }) ∧
  (∀ (s : State) (keys : Byte) (rest : List HostInput), s.inputs = .joypad keys :: rest →
    s.params.hasJoypad = false → step s = .next { s with inputs := rest }) ∧
  (∀ (s : State) (keys : Byte) (rest : List HostInput) (r : List Byte × Bool), s.inputs = .joypad keys :: rest →
    s.params.hasJoypad = true → r = Config.joypadInput s.joypad keys →
    step s = .next { s with
      inputs := rest, joypad := r.1, ifReg := if r.2 then s.ifReg ||| 0x10 else s.ifReg }) ∧
  (∀ (s : State) (rest : List HostInput), s.inputs = .takeAudio :: rest →
    step s = .next { s with
      inputs := rest
      response := some (.samples (if s.params.hasSound then Config.soundSamples s.sound.core else [])) }) ∧
  (∀ (s : State) (rest : List HostInput), s.inputs = .save :: rest →
    ∃ t banks rtc, step s = .next t ∧
      t = { s with inputs := rest, draws := t.draws, response := some (.saved banks rtc) } ∧
      banks.length = s.params.eramBanks ∧
      (∀ b i, b < s.params.eramBanks → i < 0x2000 →
        (banks[b]?).bind (fun bank => bank[i]?) = some (s.eram.read (b * 0x2000 + i))) ∧
      (∀ m, s.mapper = .mbc3 m → s.params.rtcSource = .emulated → rtc = some (rtcNow s m)) ∧
      (∀ m, s.mapper = .mbc3 m → rtc ≠ none) ∧ (s.mapper = .none → rtc = none))

/-! ## Faults -/

/-- R495: in a faulted state every command but POWERON leaves the block as it is. That it answers nothing, the port holding
nothing after it, is the model's (log 2). -/
def Obligations.FaultedStateIsQuiescent : Prop :=
  ∀ (s : State) (f : Fault) (i : Instr), s.fault = some f → ¬ isPoweron i →
    exec i s = .next { s with response := none }

/-- R374: while general DMA owns the CPU a bus command or IRQCHK raises F_CPU_DURING_GDMA and does nothing else, and
CLKGET, CLKADD, BRKCHK and CPUSET run. RDREG8 and WRREG8 outside 0xFF00-0xFFFF are ill-formed terms that R147 refuses as
words; that they act as RD8 and WR8 do is the model's (log 33). -/
def Obligations.GeneralDmaBlocksTheCpu : Prop :=
  (∀ (s : State) (i : Instr), Ready s → s.hdma.mode = .general →
    ((∃ a, ReadsBus i a) ∨ (∃ a v, WritesBus i a v) ∨ i = .irqchk) →
    exec i s = .next { s with fault := some .cpuDuringGdma, response := none }) ∧
  (∀ (s : State) (n : Count) (a : Addr) (b : Bool), Ready s → s.hdma.mode = .general →
    exec .clkget s = .next { s with response := some (.clocks s.ref) } ∧
    (s.ref + n.toNat ≤ 0x7FFFFFFF → exec (.clkadd n) s = .next { s with ref := s.ref + n.toNat, response := none }) ∧
    exec .brkchk s = .next { s with breakFlag := false, response := some (.flag s.breakFlag) } ∧
    exec (.cpusetPc a) s = .next { s with cpuPc := a, response := none } ∧
    exec (.cpusetSp a) s = .next { s with cpuSp := a, response := none } ∧
    exec (.cpusetIme b) s = .next { s with ime := b, response := none } ∧
    exec .cpusetHaltRun s = .next { s with haltMode := .run, response := none } ∧
    exec .cpusetHaltHalt s = .next { s with haltMode := .halt, response := none } ∧
    (switchesSpeed s = false → exec .cpusetHaltStop s = .next { s with haltMode := .stop, response := none }))

/-- R248, R252, R253, R406, R496: what the steps of a burst do. A command outside a CPU step's admitted set raises
F_CPU_PROTOCOL and has no effect; an admitted one has its effect and hands its answer to the executor; a step whose
CLKADDs sum to 0 and that raises no other fault raises F_CPU_NO_PROGRESS (a supplied step is a list of words, log 10).
Under general DMA a burst step is DMAEXEC of at least 1 clock and at most what is left of the burst; in STOP the CPU
advances to the burst's end, rounded up to HALT_GRANULE. -/
def Obligations.StepsOfABurst : Prop :=
  (∀ (s : State) (w : Word) (i : Instr), Ready s → decode w = .ok i →
    (i = .brkchk ∨ i = .irqchk ∨ i = .horizon ∨ (∃ sub n, i = reconcileOf sub n) ∨ (∃ sub, i = nextevtOf sub) ∨
      (∃ sub, i = subresetOf sub) ∨ isRunfor i ∨ isPoweron i ∨ (∃ k, i = mappersetOf k)) →
    cpuIssueWord w s = { s with fault := some .cpuProtocol }) ∧
  (∀ (s : State) (w : Word) (i : Instr), Ready s → decode w = .ok i →
    ((∃ a, ReadsBus i a) ∨ (∃ a v, WritesBus i a v) ∨ i = .clkget ∨ (∃ n, i = .clkadd n) ∨ (∃ n, i = .dmaexec n) ∨
      (∃ a, i = .cpusetPc a) ∨ (∃ a, i = .cpusetSp a) ∨ (∃ b, i = .cpusetIme b) ∨ i = .cpusetHaltRun ∨
      i = .cpusetHaltHalt ∨ i = .cpusetHaltStop) →
    ∃ t, exec i s = .next t ∧ cpuIssueWord w s = { t with cpuReplies := t.cpuReplies ++ t.response.toList }) ∧
  (∀ (s : State) (ws : List Word) (rest : List (List Word)), Ready s → s.cpuTape = ws :: rest →
    (∀ w ∈ ws, clkaddOf w = 0) →
    (cpuRun (fun k _ => ws[k]?) ws.length 0 0 { s with cpuTape := rest, cpuReplies := [] }).2.fault = none →
    (cpuStep s).fault = some .cpuNoProgress) ∧
  (∀ (s : State) (n : Count) (rest : List (List Word)), Ready s → s.cpuTape = [encode (.clkadd n)] :: rest →
    1 ≤ n.toNat → s.ref + n.toNat ≤ 0x7FFFFFFF →
    cpuStep s = { s with cpuTape := rest, cpuReplies := [], response := none, ref := s.ref + n.toNat }) ∧
  (∀ (s t : State) (n : Count), Ready s → s.hdma.mode = .general →
    n.toNat = max 1 (s.burstStart + s.horizon - s.ref) → exec (.dmaexec n) s = .next t → t.fault = none →
    burstStep s = t) ∧
  (∀ s : State, CpuMay s → s.hdma.stall = 0 → s.haltMode = .stop → stopExit (reconcileAll s) = false →
    s.ref - s.burstStart < s.horizon → 1 ≤ s.params.haltGranule → s.burstStart ≤ s.ref →
    s.ref + (s.burstStart + s.horizon - s.ref + s.params.haltGranule) ≤ 0x7FFFFFFF →
    (burstStep s).fault = none ∧ (burstStep s).haltMode = .stop ∧
    s.burstStart + s.horizon ≤ (burstStep s).ref ∧
    (burstStep s).ref < s.burstStart + s.horizon + s.params.haltGranule ∧
    ((burstStep s).ref - s.ref) % s.params.haltGranule = 0)

/-! ## Clock commands -/

/-- R240, R242: CLKGET answers the reference clock and changes nothing; BRKCHK answers the break flag and clears it, so a
second one answers 0. -/
def Obligations.ClkgetAndBrkchkAnswer : Prop :=
  ∀ s : State, Ready s →
    exec .clkget s = .next { s with response := some (.clocks s.ref) } ∧
    exec .brkchk s = .next { s with breakFlag := false, response := some (.flag s.breakFlag) } ∧
    exec .brkchk { s with breakFlag := false } = .next { s with breakFlag := false, response := some (.flag false) }

/-- R241: CLKADD advances the clock and reconciles nothing, or raises F_CLOCK_OVERFLOW with the clock unchanged. -/
def Obligations.ClkaddAdvancesTheClock : Prop :=
  ∀ (s : State) (n : Count), Ready s →
    (s.ref + n.toNat ≤ 0x7FFFFFFF →
      exec (.clkadd n) s = .next { s with ref := s.ref + n.toNat, response := none }) ∧
    (0x7FFFFFFF < s.ref + n.toNat →
      exec (.clkadd n) s = .next { s with fault := some .clockOverflow, response := none })

/-- R243, R244: after the reconciliation HORIZON answers and stores the least next event of the five subsystems of
HSET, at most INF; with an overdue one it raises F_NEXTEVT. -/
def Obligations.HorizonIsTheLeastNextEvent : Prop :=
  ∀ s : State, Ready s →
    ((∀ sub, sub ≠ .camera → 1 ≤ nextEvent sub (current s)) →
      ∃ h : Nat, exec .horizon s = .next { current s with horizon := h, response := some (.clocks h) } ∧
        1 ≤ h ∧ h ≤ 0x7FFFFFFF ∧ (∀ sub, sub ≠ .camera → h ≤ nextEvent sub (current s)) ∧
        (h = 0x7FFFFFFF ∨ ∃ sub, sub ≠ .camera ∧ h = nextEvent sub (current s))) ∧
    ((∃ sub, sub ≠ .camera ∧ nextEvent sub (current s) = 0) →
      exec .horizon s = .next { current s with fault := some .nextevt })

/-- R254: no command but RUNFOR and POWERON lowers the clock or, where no subsystem is ahead of it, a subsystem's
counter. -/
def Obligations.ClocksNeverRunBackwards : Prop :=
  ∀ (i : Instr) (s t : State), CounterBounds s → exec i s = .next t → ¬ isRunfor i → ¬ isPoweron i →
    s.ref ≤ t.ref ∧ ∀ sub : Subsystem, s.last.get sub ≤ t.last.get sub ∧ t.last.get sub ≤ t.ref

/-! ## Reconcilers -/

/-- R281: RECONCILE advances one subsystem to the reference; a reference below its counter is a no-op for Sound and
F_REF_BACKWARDS for the others; one beyond the clock is F_REF_AHEAD. -/
def Obligations.ReconcileAdvancesOneSubsystem : Prop :=
  ∀ (s : State) (sub : Subsystem) (n : Count), Ready s →
    (n.toNat < s.last.get sub → sub = .sound → exec (reconcileOf sub n) s = .next (begun s)) ∧
    (n.toNat < s.last.get sub → sub ≠ .sound →
      exec (reconcileOf sub n) s = .next { s with fault := some .refBackwards, response := none }) ∧
    (s.last.get sub ≤ n.toNat → s.ref < n.toNat →
      exec (reconcileOf sub n) s = .next { s with fault := some .refAhead, response := none }) ∧
    (s.last.get sub ≤ n.toNat → n.toNat ≤ s.ref →
      ∃ t, exec (reconcileOf sub n) s = .next t ∧
        t = { advance sub (n.toNat - s.last.get sub) (begun s) with last := s.last.set sub n.toNat })

/-- R282: NEXTEVT answers the clocks to the subsystem's next event, at most INF, and changes nothing; below 1 clock it
raises F_NEXTEVT. -/
def Obligations.NextevtAnswersTheNextEvent : Prop :=
  ∀ (s : State) (sub : Subsystem), Ready s →
    (1 ≤ nextEvent sub s →
      exec (nextevtOf sub) s = .next { s with response := some (.clocks (min (nextEvent sub s) 0x7FFFFFFF)) }) ∧
    (nextEvent sub s = 0 → exec (nextevtOf sub) s = .next { s with fault := some .nextevt, response := none })

/-- R283, R332, R373: SUBRESET sets the subsystem's counter to the clock and its fields to their reset values; it
writes no memory. The absent collaborators' reset state is the model's (log 34). -/
def Obligations.SubresetResetsOneSubsystem : Prop :=
  ∀ s : State, Ready s →
    (∃ t, exec .subresetTimer s = .next t ∧
      t = { s with last := { s.last with timer := s.ref }, timer := t.timer, draws := t.draws, response := none } ∧
      t.timer.reloadCd = 0 ∧ t.timer.irqCd = 0) ∧
    (∃ t, exec .subresetDma s = .next t ∧
      t = { s with last := { s.last with dma := s.ref }, odma := t.odma, hdma := t.hdma, draws := t.draws,
                   response := none } ∧
      t.odma.active = false ∧ t.odma.elapsed = 0 ∧ t.odma.copied = 0 ∧ t.hdma.mode = .none ∧ t.hdma.remaining = 0 ∧
      t.hdma.prepLeft = 0 ∧ t.hdma.copyLeft = 0 ∧ t.hdma.lastLy = none ∧ t.hdma.stall = 0) ∧
    (∃ t, exec .subresetSerial s = .next t ∧
      t = { s with last := { s.last with serial := s.ref }, serial := t.serial, response := none } ∧
      (s.params.hasSerial = false → t.serial = idleCore)) ∧
    (∃ t, exec .subresetPpu s = .next t ∧
      t = { s with last := { s.last with ppu := s.ref }, ppu := t.ppu, response := none } ∧
      (s.params.hasPpu = false → t.ppu = idlePpu)) ∧
    (∃ t, exec .subresetSound s = .next t ∧
      t = { s with last := { s.last with sound := s.ref }, sound := t.sound, response := none } ∧
      (s.params.hasSound = false → t.sound = idleCore)) ∧
    (∃ t, exec .subresetCamera s = .next t ∧
      t = { s with last := { s.last with camera := s.ref }, camera := t.camera, response := none } ∧
      (s.params.hasCamera = false → t.camera.own = idleCore))

/-- R285: advancing by 0 clocks changes nothing, a RECONCILE to the subsystem's own counter changes nothing, and a
RECONCILE that completes leaves the same state when it is issued again. -/
def Obligations.ReconcilingTwiceIsReconcilingOnce : Prop :=
  (∀ (sub : Subsystem) (s : State), advance sub 0 s = s) ∧
  (∀ (s : State) (sub : Subsystem) (n : Count), Ready s → n.toNat = s.last.get sub → n.toNat ≤ s.ref →
    exec (reconcileOf sub n) s = .next (begun s)) ∧
  (∀ (sub : Subsystem) (n : Count) (s t : State), exec (reconcileOf sub n) s = .next t → t.fault = none →
    exec (reconcileOf sub n) t = .next t)

/-- R284, R286, R331, R372. RECONCILE to one clock and then to a later one leaves the state of RECONCILE to the later
one, also where the clock is advanced between the two. In the lockstep reconciliation before an access the DMA engine's
counters, the sound and the camera are what their own advance makes them, the serial too where no partner's byte is
drawn, and OAM, and the PPU with VRAM and the HBlank DMA, where no other subsystem writes what they read or takes
draws. NEXTEVT of the timer answers the least of the two countdowns and the clocks to TIMA's overflow; of the DMA the
clocks left of 644. The form of a supplied collaborator is the model's (log 11). -/
def Obligations.ReconcilingInStagesComposes : Prop :=
  (∀ (s : State) (sub : Subsystem) (m n : Count), Ready s →
    s.last.get sub ≤ m.toNat → m.toNat ≤ n.toNat → n.toNat ≤ s.ref →
    ∃ t u, exec (reconcileOf sub m) s = .next t ∧ t.last.get sub = m.toNat ∧
      exec (reconcileOf sub n) t = .next u ∧ exec (reconcileOf sub n) s = .next u ∧ u.last.get sub = n.toNat) ∧
  (∀ (s : State) (sub : Subsystem) (m n d : Count), Ready s →
    s.last.get sub ≤ m.toNat → m.toNat ≤ n.toNat → m.toNat ≤ s.ref → n.toNat ≤ s.ref + d.toNat →
    s.ref + d.toNat ≤ 0x7FFFFFFF →
    ∃ t t' s' u, exec (reconcileOf sub m) s = .next t ∧ exec (.clkadd d) t = .next t' ∧
      exec (.clkadd d) s = .next s' ∧ exec (reconcileOf sub n) t' = .next u ∧ exec (reconcileOf sub n) s' = .next u) ∧
  (∀ s : State, CounterBounds s →
    (reconcileAll s).odma = (advance .dma (s.ref - s.last.dma) s).odma ∧
    (reconcileAll s).sound = (advance .sound (s.ref - s.last.sound) s).sound ∧
    (reconcileAll s).camera = (advance .camera (s.ref - s.last.camera) s).camera ∧
    (s.params.serialPartner = false →
      (reconcileAll s).serial = (advance .serial (s.ref - s.last.serial) s).serial) ∧
    (s.params.hasPpu = false → s.params.hasCamera = false → s.params.serialPartner = false →
      (reconcileAll s).oam = (advance .dma (s.ref - s.last.dma) s).oam) ∧
    (s.odma.active = false → s.params.hasCamera = false → s.params.serialPartner = false →
      (reconcileAll s).ppu = (advance .ppu (s.ref - s.last.ppu) s).ppu ∧
      (reconcileAll s).vram = (advance .ppu (s.ref - s.last.ppu) s).vram ∧
      (reconcileAll s).hdma = (advance .ppu (s.ref - s.last.ppu) s).hdma)) ∧
  (∀ (s : State) (k p : Nat), Ready s → k = s.timer.tac.toNat % 4 →
    p = (if k = 0 then 1024 else if k = 1 then 16 else if k = 2 then 64 else 256) →
    exec .nextevtTimer s = .next { s with response := some (.clocks
      (min (if s.timer.reloadCd = 0 then 0x7FFFFFFF else s.timer.reloadCd)
        (min (if s.timer.irqCd = 0 then 0x7FFFFFFF else s.timer.irqCd)
          (if 4 ≤ s.timer.tac.toNat
            then min 0x7FFFFFFF ((p - s.timer.sysClocks.toNat % p) + (0xFF - s.timer.tima.toNat) * p)
            else 0x7FFFFFFF)))) }) ∧
  (∀ s : State, Ready s → (s.odma.active = false →
      exec .nextevtDma s = .next { s with response := some (.clocks 0x7FFFFFFF) }) ∧
    (s.odma.active = true → s.odma.elapsed < 644 →
      exec .nextevtDma s = .next { s with response := some (.clocks (644 - s.odma.elapsed)) }))

/-- R287: before its next event a subsystem sets no IF bit and no stall, changes nothing of the CPU's wake and interrupt
logic, and its next event comes nearer by the clocks it advanced (INF stays INF). The form of a supplied collaborator
that makes it so is the model's (log 11). The inputs of the wake logic are those of the default STOP_EXIT; that a supplied
one may read other state, which advances, is the model's (log 9). -/
def Obligations.HorizonLaw : Prop :=
  ∀ (sub : Subsystem) (d : Nat) (s : State), FieldRanges s → d < nextEvent sub s →
    (advance sub d s).ifReg = s.ifReg ∧ (advance sub d s).hdma.stall = s.hdma.stall ∧
    (advance sub d s).ieReg = s.ieReg ∧ (advance sub d s).ime = s.ime ∧
    (advance sub d s).haltMode = s.haltMode ∧ (advance sub d s).joypad = s.joypad ∧
    (nextEvent sub (advance sub d s) = nextEvent sub s - d ∨
      (nextEvent sub s = inf ∧ nextEvent sub (advance sub d s) = inf))

/-- R289, R472: what each subsystem changes by advancing; IF bits are only ever set. The draw counter and the anomaly
log are the model's bookkeeping (log 5, log 24). -/
def Obligations.AdvancingWritesOnlyItsOutputs : Prop :=
  ∀ (d : Nat) (s : State),
    (∃ t, t = advance .timer d s ∧ t = { s with timer := t.timer, ifReg := t.ifReg } ∧
      t.timer.tma = s.timer.tma ∧ t.timer.tac = s.timer.tac ∧
      (t.ifReg = s.ifReg ∨ t.ifReg = s.ifReg ||| 0x04)) ∧
    (∃ t, t = advance .dma d s ∧ t = { s with odma := t.odma, oam := t.oam, draws := t.draws }) ∧
    (∃ t, t = advance .ppu d s ∧
      t = { s with ppu := t.ppu, ifReg := t.ifReg, vram := t.vram, hdma := t.hdma, draws := t.draws } ∧
      ∃ b : Byte, b &&& 0xFC = 0 ∧ t.ifReg = s.ifReg ||| b) ∧
    (∃ t, t = advance .serial d s ∧
      t = { s with serial := t.serial, ifReg := t.ifReg, draws := t.draws, anomalies := t.anomalies } ∧
      (t.ifReg = s.ifReg ∨ t.ifReg = s.ifReg ||| 0x08)) ∧
    (∃ t, t = advance .sound d s ∧ t = { s with sound := t.sound }) ∧
    (∃ t, t = advance .camera d s ∧ t = { s with camera := t.camera, eram := t.eram, anomalies := t.anomalies })

/-- R174, R284: the reconciliation before an access brings every subsystem to the clock, leaves the clock, and changes
nothing where they are there already; the timer is what advancing it alone would make it (the other subsystems are in
ReconcilingInStagesComposes). -/
def Obligations.AccessSeesEverySubsystemCurrent : Prop :=
  (∀ s : State, Settled s → reconcileAll s = s) ∧
  (∀ s : State, CounterBounds s →
    Settled (reconcileAll s) ∧ (reconcileAll s).ref = s.ref ∧
    (reconcileAll s).timer = (advance .timer (s.ref - s.last.timer) s).timer)

/-! ## Bus reads -/

/-- R90, R91, R92: the region of every address. -/
def Obligations.RegionsCoverTheAddressSpace : Prop :=
  ∀ a : Addr,
    (a.toNat ≤ 0x3FFF → regionOf a = .rom0) ∧
    (0x4000 ≤ a.toNat ∧ a.toNat ≤ 0x7FFF → regionOf a = .romX) ∧
    (0x8000 ≤ a.toNat ∧ a.toNat ≤ 0x9FFF → regionOf a = .vram) ∧
    (0xA000 ≤ a.toNat ∧ a.toNat ≤ 0xBFFF → regionOf a = .eram) ∧
    (0xC000 ≤ a.toNat ∧ a.toNat ≤ 0xDFFF → regionOf a = .wram) ∧
    (0xE000 ≤ a.toNat ∧ a.toNat ≤ 0xFDFF → regionOf a = .echo) ∧
    (0xFE00 ≤ a.toNat ∧ a.toNat ≤ 0xFE9F → regionOf a = .oam) ∧
    (0xFEA0 ≤ a.toNat ∧ a.toNat ≤ 0xFEFF → regionOf a = .unusable) ∧
    (0xFF00 ≤ a.toNat ∧ a.toNat ≤ 0xFF7F → regionOf a = .io) ∧
    (0xFF80 ≤ a.toNat ∧ a.toNat ≤ 0xFFFE → regionOf a = .hram) ∧
    (a.toNat = 0xFFFF → regionOf a = .ie)

/-- R95, R97-R101: RD8 and RDREG8 of work RAM, the echo, the unusable region, high RAM, VRAM and OAM, blocked reads
giving 0xFF; nothing changes but the reconciliation and the port. RDREG8 outside 0xFF00-0xFFFF is an ill-formed term that
R147 refuses as a word; that it reads as RD8 does is the model's (log 33). -/
def Obligations.ReadsOfRam : Prop :=
  ∀ (s : State) (i : Instr) (a : Addr), CpuMay s → ReadsBus i a → ¬ conflicts (current s) a →
    (0xC000 ≤ a.toNat ∧ a.toNat < 0xD000 →
      exec i s = .next { current s with response := some (.byte ((current s).wram.read (a.toNat - 0xC000))) }) ∧
    (0xD000 ≤ a.toNat ∧ a.toNat < 0xE000 → s.family = .dmg →
      exec i s = .next { current s with response := some (.byte ((current s).wram.read (0x1000 + (a.toNat - 0xD000)))) }) ∧
    (0xD000 ≤ a.toNat ∧ a.toNat < 0xE000 → s.family = .cgb →
      exec i s = .next { current s with
        response := some (.byte ((current s).wram.read (max 1 s.svbk.toNat * 0x1000 + (a.toNat - 0xD000)))) }) ∧
    (0xE000 ≤ a.toNat ∧ a.toNat ≤ 0xFDFF → exec i s = exec (.rd8 (a - 0x2000)) s) ∧
    (0xFEA0 ≤ a.toNat ∧ a.toNat ≤ 0xFEFF →
      exec i s = .next { current s with response := some (.byte 0x00) }) ∧
    (0xFF80 ≤ a.toNat ∧ a.toNat ≤ 0xFFFE →
      exec i s = .next { current s with response := some (.byte ((current s).hram.read (a.toNat - 0xFF80))) }) ∧
    (0x8000 ≤ a.toNat ∧ a.toNat ≤ 0x9FFF → s.params.strictVram = true ∧ (current s).ppu.view.mode = .m3 →
      exec i s = .next { current s with response := some (.byte 0xFF) }) ∧
    (0x8000 ≤ a.toNat ∧ a.toNat ≤ 0x9FFF → ¬ (s.params.strictVram = true ∧ (current s).ppu.view.mode = .m3) →
      exec i s = .next { current s with response := some (.byte ((current s).vram.read
        ((if s.family = .cgb then s.vbk.toNat else 0) * 0x2000 + (a.toNat - 0x8000)))) }) ∧
    (0xFE00 ≤ a.toNat ∧ a.toNat ≤ 0xFE9F →
      ((current s).ppu.view.mode = .m2 ∨ (current s).ppu.view.mode = .m3) →
      exec i s = .next { current s with response := some (.byte 0xFF) }) ∧
    (0xFE00 ≤ a.toNat ∧ a.toNat ≤ 0xFE9F →
      ((current s).ppu.view.mode = .m0 ∨ (current s).ppu.view.mode = .m1) →
      exec i s = .next { current s with response := some (.byte ((current s).oam.read (a.toNat - 0xFE00))) })

/-- R93, R94, R102, R453, R457: RD8 of the two ROM windows: the boot overlay where it covers the address while it is
enabled, else the cartridge's bank 0; and the current bank above, for a bank the cartridge has; MBC6 without a supplied
layout reads a draw. A read below 0xFF00 under the OAM-DMA bus conflict is a draw, whatever the address. That an MBC1
in mode 1 with its upper bits 0 shows bank 0 too is the model's choice (log 17). RDREG8 of these addresses is an
ill-formed term that R147 refuses as a word; that it reads as RD8 does is the model's (log 33). -/
def Obligations.ReadsOfTheRomWindows : Prop :=
  (∀ (s : State) (i : Instr) (a : Addr), CpuMay s → ReadsBus i a → ¬ conflicts (current s) a →
    (a.toNat ≤ 0x00FF → s.bootEnabled = true →
      exec i s = .next { current s with response := some (.byte (s.bootRom.read a.toNat)) }) ∧
    (a.toNat ≤ 0x3FFF → s.bootEnabled = true → overlaid s a.toNat = true →
      exec i s = .next { current s with response := some (.byte (s.bootRom.read a.toNat)) }) ∧
    (a.toNat ≤ 0x3FFF → s.bootEnabled = false ∨ overlaid s a.toNat = false →
      (s.mapper = .none ∨ (∃ m, s.mapper = .mbc1 m ∧ (m.mode = false ∨ m.upper = 0)) ∨ (∃ m, s.mapper = .mbc3 m) ∨
        (∃ m, s.mapper = .mbc5 m)) → 1 ≤ s.params.romBanks →
      exec i s = .next { current s with response := some (.byte (s.rom.read a.toNat)) }) ∧
    (0x4000 ≤ a.toNat ∧ a.toNat ≤ 0x7FFF → (∀ m, s.mapper ≠ .mbc6 m) → romCurr s < s.params.romBanks →
      exec i s = .next { current s with
        response := some (.byte (s.rom.read (romCurr s * 0x4000 + (a.toNat - 0x4000)))) }) ∧
    (a.toNat ≤ 0x7FFF ∨ (0xA000 ≤ a.toNat ∧ a.toNat ≤ 0xBFFF) → (∃ m, s.mapper = .mbc6 m) →
      0x4000 ≤ a.toNat ∨ s.bootEnabled = false ∨ overlaid s a.toNat = false →
      ∃ b : Byte, exec i s = .next { current s with draws := (current s).draws + 1, response := some (.byte b) })) ∧
  (∀ (s : State) (i : Instr) (a : Addr), CpuMay s → ReadsBus i a → conflicts (current s) a →
    ∃ b : Byte, exec i s = .next { current s with draws := (current s).draws + 1, response := some (.byte b) })

/-- R190, R195-R198, R320-R326, R353, R360, R364, R473, R474: what the block's own registers read, on both families. -/
def Obligations.ReadsOfTheBlocksRegisters : Prop :=
  ∀ (s : State) (i : Instr) (a : Addr), CpuMay s → ReadsBus i a →
    (∀ b : Byte,
      ((a = 0xFF04 ∧ b = (current s).timer.sysClocks.extractLsb' 8 8) ∨
       (a = 0xFF05 ∧ b = (current s).timer.tima) ∨
       (a = 0xFF06 ∧ b = s.timer.tma) ∨
       (a = 0xFF07 ∧ b = (0b11111 : BitVec 5) ++ s.timer.tac) ∨
       (a = 0xFF0F ∧ b = (0b111 : BitVec 3) ++ (current s).ifReg.extractLsb' 0 5) ∨
       (a = 0xFF46 ∧ b = s.odma.reg) ∨
       (a = 0xFF50 ∧ b = 0xFF) ∨
       (a = 0xFFFF ∧ b = s.ieReg)) →
      exec i s = .next { current s with response := some (.byte b) }) ∧
    (s.family = .cgb → ∀ b : Byte,
      ((a = 0xFF4D ∧ b = BitVec.ofBool s.doubleSpeed ++ (0b111111 : BitVec 6) ++ BitVec.ofBool s.key1Prepare) ∨
       (a = 0xFF4F ∧ b = (0b1111111 : BitVec 7) ++ s.vbk) ∨
       ((a = 0xFF51 ∨ a = 0xFF52 ∨ a = 0xFF53 ∨ a = 0xFF54) ∧ b = 0xFF) ∨
       (a = 0xFF55 ∧ (current s).hdma.mode ≠ .none ∧
         b = BitVec.ofNat 8 ((current s).hdma.remaining / 16 - 1) &&& 0x7F) ∨
       (a = 0xFF55 ∧ (current s).hdma.mode = .none ∧ (current s).hdma.remaining / 16 = 0 ∧ b = 0xFF) ∨
       (a = 0xFF55 ∧ (current s).hdma.mode = .none ∧ (current s).hdma.remaining / 16 ≠ 0 ∧
         b = 0x80 ||| (BitVec.ofNat 8 ((current s).hdma.remaining / 16 - 1) &&& 0x7F)) ∨
       (a = 0xFF70 ∧ b = (0b11111 : BitVec 5) ++ s.svbk)) →
      exec i s = .next { current s with response := some (.byte b) })

/-- R57, R58, R192, R193, R194, R289, R446: the I/O addresses that are not the block's own: which collaborator has which,
on both families, that on the DMG family the CGB family's alone are unrecognized, and that an address R56 and R57 give
nobody is the collaborator's that claims it, or unrecognized; that a claim cannot take an address R56 or R57 gives is the
model's reading (log 29). One that no handler claims reads 0xFF and ignores writes, logging BUS with the PC and the ROM
bank. A collaborator's register without a model reads a draw and ignores writes; with one it is read and written through
the model's handler, after the reconciliation: the handler is given the collaborator's own state and the io_shadow bytes
of the addresses it owns, may change these and no others, and for the joypad alone may raise IF[4] (that a P1 write may
is left to the model, log 15). What else of the block a handler sees, and that a read's declared side effect changes the
collaborator's own core and wait and those io_shadow bytes alone and comes after the byte, are the model's (log 29). The
camera's registers stand in the mapper window: where a Camera cartridge with its RAM enabled puts them by its bank
registers, that a read takes no side effect, and that a write raises nothing, are the model's (log 14); RDREG8 and WRREG8
there are ill-formed terms that R147 refuses as words, and that they act as RD8 and WR8 do is the model's (log 33). -/
def Obligations.RegistersThatAreNotTheBlocks : Prop :=
  (∀ (s : State) (i : Instr) (a : Addr) (v : Byte), CpuMay s → 0xFF00 ≤ a.toNat → a.toNat ≤ 0xFF7F →
    ioRegOf s a = .unrecognized →
    (ReadsBus i a → exec i s = .next { current s with
      anomalies := (current s).anomalies ++
        [{ kind := .bus, access := some (a, .read), pc := s.cpuPc, romBank := romCurr (current s) }]
      response := some (.byte 0xFF) }) ∧
    (WritesBus i a v → exec i s = .next { current s with
      anomalies := (current s).anomalies ++
        [{ kind := .bus, access := some (a, .write), pc := s.cpuPc, romBank := romCurr (current s) }]
      breakFlag := true })) ∧
  (∀ (s : State) (a : Addr) (claims : List (Addr × Collab)),
    claims = (if s.family = .cgb then s.params.claimsCgb else s.params.claimsDmg) →
    (a = 0xFF00 → ioRegOf s a = .collab .joypad) ∧
    (0xFF01 ≤ a.toNat ∧ a.toNat ≤ 0xFF02 → ioRegOf s a = .collab .serial) ∧
    ((0xFF10 ≤ a.toNat ∧ a.toNat ≤ 0xFF26) ∨ (0xFF30 ≤ a.toNat ∧ a.toNat ≤ 0xFF3F) → ioRegOf s a = .collab .sound) ∧
    ((0xFF40 ≤ a.toNat ∧ a.toNat ≤ 0xFF45) ∨ (0xFF47 ≤ a.toNat ∧ a.toNat ≤ 0xFF4B) → ioRegOf s a = .collab .ppu) ∧
    (s.family = .cgb → 0xFF68 ≤ a.toNat ∧ a.toNat ≤ 0xFF6B → ioRegOf s a = .collab .ppu) ∧
    (s.family = .dmg → RegisterOfCgb a → ioRegOf s a = .unrecognized) ∧
    (0xFF00 ≤ a.toNat → a.toNat ≤ 0xFF7F → ¬ RegisterOfBoth a → ¬ RegisterOfCgb a →
      ((∀ p ∈ claims, p.1 ≠ a) → ioRegOf s a = .unrecognized) ∧
      (∀ c, (a, c) ∈ claims → (∀ p ∈ claims, p.1 = a → p.2 = c) → ioRegOf s a = .collab c))) ∧
  (∀ (s : State) (i : Instr) (a : Addr) (v : Byte) (c : Collab), CpuMay s → 0xFF00 ≤ a.toNat → a.toNat ≤ 0xFF7F →
    ioRegOf s a = .collab c → present s c = false →
    (ReadsBus i a →
      ∃ b : Byte, exec i s = .next { current s with draws := (current s).draws + 1, response := some (.byte b) }) ∧
    (WritesBus i a v → exec i s = .next { current s with breakFlag := true })) ∧
  (∀ (s : State) (i : Instr) (a : Addr) (c : Collab) (seen : Addr → Byte) (e : CollabReadEffect), CpuMay s →
    OwnsIo s c a → present s c = true → ReadsBus i a → ShadowSeen (current s) c seen →
    e = Config.collabReadEffect c (collabState c (current s)) seen a →
    ∃ t, exec i s = .next t ∧
      t.response = some (.byte (Config.collabRead c (collabState c (current s)).core seen a)) ∧
      (if Config.collabReadDeclares c a
        then t = { setCollabState c e.next (current s) with ioShadow := t.ioShadow, response := t.response } ∧
          ShadowKept (current s) c e.shadow t.ioShadow
        else t = { current s with response := t.response })) ∧
  (∀ (s : State) (i : Instr) (a : Addr) (v : Byte) (c : Collab) (seen : Addr → Byte) (w : CollabWrite), CpuMay s →
    OwnsIo s c a → present s c = true → WritesBus i a v → ShadowSeen (current s) c seen →
    w = Config.collabWrite c (collabState c (current s)) seen a v (s.family == .cgb) s.doubleSpeed →
    ∃ t, exec i s = .next t ∧
      t = { current s with
            ppu := t.ppu, sound := t.sound, serial := t.serial, camera := t.camera, joypad := t.joypad
            ioShadow := t.ioShadow, ifReg := t.ifReg, breakFlag := true } ∧
      (collabState c t).core = w.next.core ∧ (c ≠ .joypad → (collabState c t).wait = w.next.wait) ∧
      (∀ d, d ≠ c → collabState d t = collabState d (current s)) ∧ (c ≠ .ppu → t.ppu = (current s).ppu) ∧
      t.camera.frame = (current s).camera.frame ∧
      ShadowKept (current s) c w.shadow t.ioShadow ∧
      t.ifReg = (if c = .joypad ∧ w.irq = true then (current s).ifReg ||| 0x10 else (current s).ifReg)) ∧
  (∀ (s : State) (i : Instr) (a : Addr) (v : Byte) (m : BankRegs) (k : Nat) (seen : Addr → Byte) (w : CollabWrite),
    CpuMay s → ¬ conflicts (current s) a → 0xA000 ≤ a.toNat → a.toNat ≤ 0xBFFF → s.mapper = .camera m →
    m.ramEnabled = true → m.ramBank < s.params.eramBanks → k = m.ramBank * 0x2000 + (a.toNat - 0xA000) →
    ShadowSeen (current s) .camera seen →
    w = Config.collabWrite .camera (current s).camera.own seen a v (s.family == .cgb) s.doubleSpeed →
    (ReadsBus i a → s.params.hasCamera = true → exec i s = .next { current s with
      response := some (.byte (if Config.cameraWindow m a
        then Config.collabRead .camera (current s).camera.own.core seen a else (current s).eram.read k)) }) ∧
    (WritesBus i a v → s.params.hasCamera = true →
      if Config.cameraWindow m a
        then ∃ t, exec i s = .next t ∧ ShadowKept (current s) .camera w.shadow t.ioShadow ∧
          t = { current s with camera := { (current s).camera with own := w.next }, ioShadow := t.ioShadow }
        else exec i s = .next { current s with eram := (current s).eram.write k v }) ∧
    (ReadsBus i a → s.params.hasCamera = false → ∃ b : Byte, exec i s = .next (if Config.cameraWindow m a
      then { current s with draws := (current s).draws + 1, response := some (.byte b) }
      else { current s with response := some (.byte ((current s).eram.read k)) })) ∧
    (WritesBus i a v → s.params.hasCamera = false → exec i s = .next (if Config.cameraWindow m a then current s
      else { current s with eram := (current s).eram.write k v })))

/-! ## Bus writes -/

/-- R175: a write to the I/O page or to 0xFFFF sets the break flag, and no other write does; both forms of the write
command answer a next state. The second part says it of the bus write that the pushes of an acknowledge make too. WRREG8
outside 0xFF00-0xFFFF is an ill-formed term that R147 refuses as a word; that it writes as WR8 does is the model's (log
33). -/
def Obligations.WriteToTheIoPageBreaksTheBurst : Prop :=
  (∀ (s : State) (i : Instr) (a : Addr) (v : Byte), CpuMay s → WritesBus i a v →
    ∃ t, exec i s = .next t ∧
      ((0xFF00 ≤ a.toNat ∧ a.toNat ≤ 0xFF7F) ∨ a = 0xFFFF → t.breakFlag = true) ∧
      (¬ ((0xFF00 ≤ a.toNat ∧ a.toNat ≤ 0xFF7F) ∨ a = 0xFFFF) → t.breakFlag = s.breakFlag)) ∧
  (∀ (s : State) (a : Addr) (v : Byte), (0xFF00 ≤ a.toNat ∧ a.toNat ≤ 0xFF7F) ∨ a = 0xFFFF →
    (busWrite a v s).breakFlag = true)

/-- R106, R107, R104, R108, R109: WR8 and WRREG8 of the block's RAM. The array of the address takes the byte at the
address's place and keeps every other byte; nothing else changes but by the reconciliation. WRREG8 outside 0xFF00-0xFFFF
is an ill-formed term that R147 refuses as a word; that it writes as WR8 does is the model's (log 33). -/
def Obligations.WritesOfRam : Prop :=
  ∀ (s : State) (i : Instr) (a : Addr) (v : Byte), CpuMay s → WritesBus i a v →
    (0xC000 ≤ a.toNat ∧ a.toNat ≤ 0xDFFF → MemoryCanonical (current s) →
      ∃ t, exec i s = .next t ∧ t = { current s with wram := t.wram } ∧
        t.wram.read (wramIndex s a.toNat) = v ∧
        ∀ k, k ≠ wramIndex s a.toNat → t.wram.read k = (current s).wram.read k) ∧
    (0xE000 ≤ a.toNat ∧ a.toNat ≤ 0xFDFF → exec i s = exec (.wr8 (a - 0x2000) v) s) ∧
    (0xFF80 ≤ a.toNat ∧ a.toNat ≤ 0xFFFE → MemoryCanonical (current s) →
      ∃ t, exec i s = .next t ∧ t = { current s with hram := t.hram } ∧
        t.hram.read (a.toNat - 0xFF80) = v ∧
        ∀ k, k ≠ a.toNat - 0xFF80 → t.hram.read k = (current s).hram.read k) ∧
    (0x8000 ≤ a.toNat ∧ a.toNat ≤ 0x9FFF → MemoryCanonical (current s) →
      ¬ (s.params.blockWrites = true ∧ s.params.strictVram = true ∧ (current s).ppu.view.mode = .m3) →
      ∃ t, exec i s = .next t ∧ t = { current s with vram := t.vram } ∧
        t.vram.read (vramIndex (vramBank s) (a.toNat - 0x8000)) = v ∧
        ∀ k, k ≠ vramIndex (vramBank s) (a.toNat - 0x8000) → t.vram.read k = (current s).vram.read k) ∧
    (0x8000 ≤ a.toNat ∧ a.toNat ≤ 0x9FFF →
      s.params.blockWrites = true ∧ s.params.strictVram = true ∧ (current s).ppu.view.mode = .m3 →
      exec i s = .next (current s)) ∧
    (0xFE00 ≤ a.toNat ∧ a.toNat ≤ 0xFE9F → MemoryCanonical (current s) →
      ¬ (s.params.blockWrites = true ∧ ((current s).ppu.view.mode = .m2 ∨ (current s).ppu.view.mode = .m3)) →
      ∃ t, exec i s = .next t ∧ t = { current s with oam := t.oam } ∧
        t.oam.read (a.toNat - 0xFE00) = v ∧
        ∀ k, k ≠ a.toNat - 0xFE00 → t.oam.read k = (current s).oam.read k) ∧
    (0xFE00 ≤ a.toNat ∧ a.toNat ≤ 0xFE9F →
      s.params.blockWrites = true ∧ ((current s).ppu.view.mode = .m2 ∨ (current s).ppu.view.mode = .m3) →
      exec i s = .next (current s)) ∧
    (0xFEA0 ≤ a.toNat ∧ a.toNat ≤ 0xFEFF → exec i s = .next (current s))

/-- R191, R195-R198, R325, R352, R360, R473, R474: what a write to the block's own registers does, on both families;
the break flag is set and nothing else changes but by the reconciliation. -/
def Obligations.WritesOfTheBlocksRegisters : Prop :=
  ∀ (s : State) (i : Instr) (a : Addr) (v : Byte), CpuMay s → WritesBus i a v →
    (a = 0xFF06 → exec i s = .next { current s with
      timer := { (current s).timer with tma := v }, breakFlag := true }) ∧
    (a = 0xFF0F → exec i s = .next { current s with
      ifReg := (current s).ifReg.extractLsb' 5 3 ++ v.extractLsb' 0 5, breakFlag := true }) ∧
    (a = 0xFFFF → exec i s = .next { current s with ieReg := v, breakFlag := true }) ∧
    (a = 0xFF46 → exec i s = .next { current s with
      odma := { active := true, src := v ++ (0 : Byte), elapsed := 0, copied := 0, reg := v }, breakFlag := true }) ∧
    (a = 0xFF50 → exec i s = .next { current s with
      bootEnabled := false, dispatchSet := sel s.family false, breakFlag := true }) ∧
    (s.family = .cgb →
      (a = 0xFF4D → exec i s = .next { current s with key1Prepare := v.getLsbD 0, breakFlag := true }) ∧
      (a = 0xFF4F → exec i s = .next { current s with vbk := v.extractLsb' 0 1, breakFlag := true }) ∧
      (a = 0xFF70 → exec i s = .next { current s with svbk := v.extractLsb' 0 3, breakFlag := true }) ∧
      (a = 0xFF51 → exec i s = .next { current s with
        hdma := { (current s).hdma with srcReg := v ++ ((current s).hdma.srcReg.extractLsb' 0 8 &&& 0xF0) }
        breakFlag := true }) ∧
      (a = 0xFF52 → exec i s = .next { current s with
        hdma := { (current s).hdma with srcReg := (current s).hdma.srcReg.extractLsb' 8 8 ++ (v &&& 0xF0) }
        breakFlag := true }) ∧
      (a = 0xFF53 → exec i s = .next { current s with
        hdma := { (current s).hdma with
          dstReg := (0b100 : BitVec 3) ++ v.extractLsb' 0 5 ++ ((current s).hdma.dstReg.extractLsb' 0 8 &&& 0xF0) }
        breakFlag := true }) ∧
      (a = 0xFF54 → exec i s = .next { current s with
        hdma := { (current s).hdma with
          dstReg := (0b100 : BitVec 3) ++ (current s).hdma.dstReg.extractLsb' 8 5 ++ (v &&& 0xF0) }
        breakFlag := true }))

/-- R321, R323, R327, R335: writes to DIV, TIMA and TAC. DIV clears the divider and counts once more where the signal
was 1; TIMA stores, inside the reload window as TIMA_WRITE_IN_RELOAD says; TAC stores three bits and counts where the
glitch predicate holds: under the default one where the signal falls, under a supplied one where it says so of the
hardware model, the old and the new TAC, the divider and the old and the new signal. -/
def Obligations.WritesOfTheTimerRegisters : Prop :=
  ∀ (s : State) (i : Instr) (a : Addr) (v : Byte), CpuMay s → WritesBus i a v →
    (a = 0xFF04 → timerSignal (current s).timer = true → exec i s = .next { current s with
      timer := incTima { (current s).timer with sysClocks := 0 }, breakFlag := true }) ∧
    (a = 0xFF04 → timerSignal (current s).timer = false → exec i s = .next { current s with
      timer := { (current s).timer with sysClocks := 0 }, breakFlag := true }) ∧
    (a = 0xFF05 → (current s).timer.reloadCd = 0 → exec i s = .next { current s with
      timer := { (current s).timer with tima := v }, breakFlag := true }) ∧
    (a = 0xFF05 → (current s).timer.reloadCd ≠ 0 → s.params.timaWriteInReload = .cancel →
      exec i s = .next { current s with
        timer := { (current s).timer with tima := v, reloadCd := 0, irqCd := 0 }, breakFlag := true }) ∧
    (a = 0xFF05 → (current s).timer.reloadCd ≠ 0 → s.params.timaWriteInReload = .overwritten →
      exec i s = .next { current s with timer := { (current s).timer with tima := v }, breakFlag := true }) ∧
    (a = 0xFF07 → s.params.tacGlitch = .fallingEdge → timerSignal (current s).timer = false →
      exec i s = .next { current s with
        timer := { (current s).timer with tac := v.extractLsb' 0 3 }, breakFlag := true }) ∧
    (a = 0xFF07 → s.params.tacGlitch = .fallingEdge → timerSignal (current s).timer = true →
      timerSignal { (current s).timer with tac := v.extractLsb' 0 3 } = false →
      exec i s = .next { current s with
        timer := incTima { (current s).timer with tac := v.extractLsb' 0 3 }, breakFlag := true }) ∧
    (a = 0xFF07 → s.params.tacGlitch = .fallingEdge → timerSignal (current s).timer = true →
      timerSignal { (current s).timer with tac := v.extractLsb' 0 3 } = true →
      exec i s = .next { current s with
        timer := { (current s).timer with tac := v.extractLsb' 0 3 }, breakFlag := true }) ∧
    (∀ glitch : Bool, a = 0xFF07 → s.params.tacGlitch = .supplied →
      glitch = Config.tacWriteGlitch s.params.hwModel s.timer.tac (v.extractLsb' 0 3) (current s).timer.sysClocks
        (timerSignal (current s).timer) (timerSignal { (current s).timer with tac := v.extractLsb' 0 3 }) →
      exec i s = .next { current s with
        timer := (if glitch then incTima { (current s).timer with tac := v.extractLsb' 0 3 }
          else { (current s).timer with tac := v.extractLsb' 0 3 })
        breakFlag := true })

/-- R98, R106, R171: a byte written to work RAM reads back, at its address and at its echo. -/
def Obligations.EchoReadsTheByteWritten : Prop :=
  ∀ (s : State) (a : Addr) (v : Byte), CpuMay s → CounterBounds s → MemoryCanonical (current s) →
    s.params.oamDmaBusConflict = false → 0xC000 ≤ a.toNat → a.toNat ≤ 0xDDFF →
    ∃ t, exec (.wr8 a v) s = .next t ∧
      exec (.rd8 a) t = .next { t with response := some (.byte v) } ∧
      exec (.rd8 (a + 0x2000)) t = .next { t with response := some (.byte v) }

/-! ## Timer -/

/-- R312, R313: one timer clock. The countdowns come first: the reload takes TMA and IF[2] is set on the clock their
countdown ends; then the divider steps, and TIMA counts where the signal falls, an overflow starting both countdowns at
4. -/
def Obligations.OneTimerClock : Prop :=
  ∀ s : State,
    ∃ t u : Timer, (tickTimer s).timer = u ∧
      t.sysClocks = s.timer.sysClocks ∧ t.tma = s.timer.tma ∧ t.tac = s.timer.tac ∧
      t.reloadCd = s.timer.reloadCd - 1 ∧ t.irqCd = s.timer.irqCd - 1 ∧
      (s.timer.reloadCd = 1 → t.tima = s.timer.tma) ∧ (s.timer.reloadCd ≠ 1 → t.tima = s.timer.tima) ∧
      (s.timer.irqCd = 1 → (tickTimer s).ifReg = s.ifReg ||| 0x04) ∧
      (s.timer.irqCd ≠ 1 → (tickTimer s).ifReg = s.ifReg) ∧
      u.sysClocks = s.timer.sysClocks + 1 ∧ u.tma = s.timer.tma ∧ u.tac = s.timer.tac ∧
      (timerSignal t = true ∧ timerSignal u = false ∧ t.tima = 0xFF →
        u.tima = 0x00 ∧ u.reloadCd = 4 ∧ u.irqCd = 4) ∧
      (timerSignal t = true ∧ timerSignal u = false ∧ t.tima ≠ 0xFF →
        u.tima = t.tima + 1 ∧ u.reloadCd = t.reloadCd ∧ u.irqCd = t.irqCd) ∧
      (¬ (timerSignal t = true ∧ timerSignal u = false) →
        u.tima = t.tima ∧ u.reloadCd = t.reloadCd ∧ u.irqCd = t.irqCd)

/-- R333: from TIMA = 0xFF at a period boundary, TIMA is 0x00 after P clocks and still so, with IF as before, after
P + 3; after P + 4 it is TMA and IF[2] is 1. -/
def Obligations.TimerReloadTiming : Prop :=
  ∀ s : State, s.timer.tima = 0xFF → s.timer.tac.getLsbD 2 = true →
    s.timer.sysClocks.toNat % timerPeriod s.timer.tac = 0 → s.timer.reloadCd = 0 → s.timer.irqCd = 0 →
    (advance .timer (timerPeriod s.timer.tac) s).timer.tima = 0x00 ∧
    (advance .timer (timerPeriod s.timer.tac + 3) s).timer.tima = 0x00 ∧
    (advance .timer (timerPeriod s.timer.tac + 3) s).ifReg = s.ifReg ∧
    (advance .timer (timerPeriod s.timer.tac + 4) s).timer.tima = s.timer.tma ∧
    (advance .timer (timerPeriod s.timer.tac + 4) s).ifReg = s.ifReg ||| 0x04

/-- R334: with the timer enabled and no reload pending, TIMA (before overflow) counts exactly once in any P clocks,
whatever the phase. -/
def Obligations.TimerCountsOncePerPeriod : Prop :=
  ∀ s : State, s.timer.tac.getLsbD 2 = true → s.timer.reloadCd = 0 → s.timer.tima ≠ 0xFF →
    (advance .timer (timerPeriod s.timer.tac) s).timer.tima = s.timer.tima + 1

/-! ## DMA -/

/-- R350, R351, R354-R356: an OAM DMA, started by its register, from any page. After `e` clocks the bytes due are
copied in source order and no other byte of OAM has changed; after 644 all 160 are, and the engine is idle. The bytes
are those of the ROM windows (the boot overlay applies), VRAM (unblocked), external RAM, work RAM and its echo; from
0xFE00 up each is a draw. Which RAM bank, and which bank at 0x0000-0x3FFF, an MBC1 uses by its mode (log 17), the bank
registers of MMM01 and Rumble (log 16), and what an MBC3's window holds beside its RAM banks (log 18) are the model's
choice. -/
def Obligations.OamDmaCopiesEveryByteOnce : Prop :=
  ∀ (s t : State) (v : Byte) (e n : Nat), s.oam.wf = true → e ≤ 644 → n = min 160 ((e - 4) / 4) →
    t = advance .dma e (writeDmaReg v s) →
    t.odma.copied = n ∧ (t.odma.active = true ↔ e < 644) ∧
    (∀ k, n ≤ k → t.oam.read k = s.oam.read k) ∧
    (∀ (k : Nat) (b : Byte), k < n → SourceByte s (v.toNat * 256 + k) b → t.oam.read k = b) ∧
    (0xFE ≤ v.toNat → t.draws = s.draws + n ∧ ∀ k, k < n → t.oam.read k = Config.draw (s.draws + k)) ∧
    (0xC0 ≤ v.toNat → v.toNat ≤ 0xFD → t.draws = s.draws)

/-- R361-R363: a write to HDMA5 starts, cancels and restarts a transfer (CGB family, the screen on for HBlank mode). -/
def Obligations.Hdma5StartsAndCancels : Prop :=
  ∀ (s : State) (i : Instr) (v : Byte), CpuMay s → WritesBus i 0xFF55 v → s.family = .cgb →
    ((current s).hdma.mode = .none → v.getLsbD 7 = false →
      exec i s = .next { current s with
        hdma := { (current s).hdma with
          mode := .general, src := (current s).hdma.srcReg, dst := (current s).hdma.dstReg,
          remaining := (v.toNat % 128 + 1) * 16, copyLeft := 0, prepLeft := s.params.hdmaPrepClocks }
        breakFlag := true }) ∧
    (v.getLsbD 7 = true → (current s).ppu.view.lcdOn = true →
      exec i s = .next { current s with
        hdma := { (current s).hdma with
          mode := .hblank, src := (current s).hdma.srcReg, dst := (current s).hdma.dstReg,
          remaining := (v.toNat % 128 + 1) * 16, copyLeft := 0, prepLeft := 0, lastLy := none }
        breakFlag := true }) ∧
    ((current s).hdma.mode = .hblank → v.getLsbD 7 = false →
      exec i s = .next { current s with
        hdma := { (current s).hdma with mode := .none }, breakFlag := true })

/-- R361, R368, R370: the blocks of GDMA and HDMA. One block moves both pointers by 16, the destination wrapping inside
VRAM, and leaves 16 bytes fewer; its bytes land in the VRAM bank VBK and every other byte of VRAM is as before. They
are those of the ROM windows, external RAM, work RAM and its echo; from VRAM and from 0xFE00 up each is a draw. An
HBlank transfer started with the screen off copies its first block at once. A DMAEXEC whose budget goes beyond the
preparation, or beyond one block, is DMAEXEC of the first part and then of the rest. Which RAM bank, and which bank at
0x0000-0x3FFF, an MBC1 uses by its mode (log 17), the bank registers of MMM01 and Rumble (log 16), and what an MBC3's
window holds beside its RAM banks (log 18) are the model's choice. -/
def Obligations.BlocksMoveSixteenBytesAndBudgetsAddUp : Prop :=
  (∀ s : State,
    (copyBlock s).hdma = { s.hdma with
      src := s.hdma.src + 16, dst := 0x8000 ||| ((s.hdma.dst + 16) &&& 0x1FFF), remaining := s.hdma.remaining - 16 }) ∧
  (∀ s : State, s.vram.wf = true →
    (∀ (k : Nat) (b : Byte), k < 16 → SourceByte s (s.hdma.src.toNat + k) b →
      ¬ (0x8000 ≤ s.hdma.src.toNat + k ∧ s.hdma.src.toNat + k ≤ 0x9FFF) →
      (copyBlock s).vram.read (s.vbk.toNat * 0x2000 + (s.hdma.dst.toNat + k) % 0x2000) = b) ∧
    ((0x8000 ≤ s.hdma.src.toNat ∧ s.hdma.src.toNat + 15 ≤ 0x9FFF) ∨ 0xFE00 ≤ s.hdma.src.toNat →
      (copyBlock s).draws = s.draws + 16 ∧
      ∀ k, k < 16 → (copyBlock s).vram.read (s.vbk.toNat * 0x2000 + (s.hdma.dst.toNat + k) % 0x2000) =
        Config.draw (s.draws + k)) ∧
    (0xC000 ≤ s.hdma.src.toNat → s.hdma.src.toNat + 15 ≤ 0xFDFF → (copyBlock s).draws = s.draws) ∧
    (∀ j, (∀ k, k < 16 → j ≠ s.vbk.toNat * 0x2000 + (s.hdma.dst.toNat + k) % 0x2000) →
      (copyBlock s).vram.read j = s.vram.read j)) ∧
  (∀ (s u : State) (i : Instr) (v : Byte), CpuMay s → WritesBus i 0xFF55 v → s.family = .cgb → v.getLsbD 7 = true →
    (current s).ppu.view.lcdOn = false →
    u = copyBlock { current s with hdma := { (current s).hdma with
      mode := .hblank, src := (current s).hdma.srcReg, dst := (current s).hdma.dstReg,
      remaining := (v.toNat % 128 + 1) * 16, copyLeft := 0, prepLeft := 0, lastLy := none } } →
    exec i s = .next { u with
      hdma := { u.hdma with mode := if v.toNat % 128 = 0 then .none else .hblank }, breakFlag := true }) ∧
  (∀ (s t u : State) (c c1 c2 : Count), Ready s → s.hdma.mode = .general → 1 ≤ c2.toNat →
    c.toNat = c1.toNat + c2.toNat →
    (1 ≤ c1.toNat ∧ c1.toNat = s.hdma.prepLeft) ∨ (s.hdma.prepLeft = 0 ∧ c1.toNat = gdmaBlockClocks s ∧ 16 < s.hdma.remaining) →
    exec (.dmaexec c1) s = .next t → t.fault = none → exec (.dmaexec c2) t = .next u → u.fault = none →
    t.ref = s.ref + c1.toNat ∧ exec (.dmaexec c) s = .next { u with response := some (.clocks (u.ref - s.ref)) })

/-- R365, R369, R432, R435, R436: the PPU's clock and the HBlank block. Entering mode 0 on a line copies one block,
notes the line and adds the stall; the same line again changes nothing. A PPU clock that enters mode 0 with the screen
on draws the line, by the renderer, and then calls `on_hblank` for it; every other PPU clock, and every one with the
screen off, does neither. Where `Next_PPU` runs out, and there only, IF[0] and IF[1] are set as the PPU's step says. In
double speed one PPU clock is 2 reference clocks. The form of a supplied PPU's step, the mode it keeps where it may not
enter mode 0 included (log 11), which of the two clocks it steps on (log 12), and what drawing may change (log 30) are
the model's choice. -/
def Obligations.PpuClockAndTheHblankBlock : Prop :=
  (∀ (s : State) (ly : Byte), s.hdma.mode = .hblank → s.hdma.lastLy ≠ some ly →
    (onHblank ly s).vram = (copyBlock s).vram ∧
    (onHblank ly s).hdma.remaining = s.hdma.remaining - 16 ∧
    (onHblank ly s).hdma.lastLy = some ly ∧
    (onHblank ly s).hdma.stall = s.hdma.stall + gdmaBlockClocks s ∧
    (s.hdma.remaining = 16 → (onHblank ly s).hdma.mode = .none) ∧
    (16 < s.hdma.remaining → (onHblank ly s).hdma.mode = .hblank) ∧
    onHblank ly (onHblank ly s) = onHblank ly s) ∧
  (∀ (s : State) (ly : Byte), s.hdma.mode ≠ .hblank → onHblank ly s = s) ∧
  (∀ (s : State) (e : PpuStep),
    e = Config.ppuStep (collabContext s) s.ppu.view s.ppu.own.core s.vram.read s.oam.read →
    ∃ u, u = { s with ppu := u.ppu, ifReg := u.ifReg } ∧
      u.ifReg = (if ppuWait s = some 1
        then s.ifReg ||| (if e.vblank then 0x01 else 0x00) ||| (if e.stat then 0x02 else 0x00) else s.ifReg) ∧
      u.ppu.view.ly = e.ly ∧ u.ppu.view.lcdOn = s.ppu.view.lcdOn ∧
      (s.ppu.view.lcdOn = true → s.ppu.view.mode ≠ .m0 → e.mode = .m0 → (s.hdma.mode ≠ .hblank ∨ ppuWait s = some 1) →
        u.ppu.view.mode = .m0 ∧ u.ppu.own.core = Config.ppuDraw s.renderer e.ly e.core s.vram.read s.oam.read ∧
        ppuClock s = onHblank e.ly u) ∧
      (s.ppu.view.lcdOn = false ∨ s.ppu.view.mode = .m0 ∨ e.mode ≠ .m0 ∨ (s.hdma.mode = .hblank ∧ ppuWait s ≠ some 1) →
        u.ppu.own.core = e.core ∧ ppuClock s = u ∧
        u.ppu.view.mode = (if s.ppu.view.lcdOn = true ∧ e.mode = .m0 ∧ s.hdma.mode = .hblank ∧ ppuWait s ≠ some 1
          then s.ppu.view.mode else e.mode))) ∧
  (∀ (s : State) (d : Nat), s.params.hasPpu = true → s.doubleSpeed = true → s.ppu.halfClock = false →
    advance .ppu (2 * d) s = Nat.repeat ppuClock d s ∧
    advance .ppu 1 s = { s with ppu := { s.ppu with halfClock := true } } ∧
    advance .ppu 1 { s with ppu := { s.ppu with halfClock := true } } = ppuClock s) ∧
  (∀ (s : State) (d : Nat), s.params.hasPpu = true → s.doubleSpeed = false →
    advance .ppu d { s with ppu := { s.ppu with halfClock := false } } =
      Nat.repeat ppuClock d { s with ppu := { s.ppu with halfClock := false } } ∧
    advance .ppu 1 s = ppuClock { s with ppu := { s.ppu with halfClock := false } }) ∧
  (∀ s : State, s.params.hasPpu = true →
    nextEvent .ppu s = (match ppuWait s with
      | none => 0x7FFFFFFF
      | some n => if s.doubleSpeed then (if s.ppu.halfClock then 2 * n - 1 else 2 * n) else n)) ∧
  (∀ (s : State) (d : Nat), s.params.hasPpu = false → advance .ppu d s = s ∧ nextEvent .ppu s = 0x7FFFFFFF)

/-- R370: DMAEXEC without a general DMA answers 0 and changes nothing; where the budget, counted as 1 at least, is
within the preparation left, it pays that much and copies nothing; after it, a budget within one block copies one
block, pays for it, and ends the transfer with the last. -/
def Obligations.DmaexecPaysAndCopies : Prop :=
  ∀ (s : State) (c : Count), Ready s →
    (s.hdma.mode ≠ .general → exec (.dmaexec c) s = .next { s with response := some (.clocks 0) }) ∧
    (∀ n, n = max c.toNat 1 → s.hdma.mode = .general → n ≤ s.hdma.prepLeft → s.ref + n ≤ 0x7FFFFFFF →
      exec (.dmaexec c) s = .next { s with
        ref := s.ref + n, hdma := { s.hdma with prepLeft := s.hdma.prepLeft - n }
        response := some (.clocks n) }) ∧
    (s.hdma.mode = .general → s.hdma.prepLeft = 0 → c.toNat ≤ gdmaBlockClocks s →
      s.ref + gdmaBlockClocks s ≤ 0x7FFFFFFF →
      ∃ t, exec (.dmaexec c) s = .next t ∧
        t = { copyBlock (current s) with
              ref := s.ref + gdmaBlockClocks s, hdma := t.hdma, response := some (.clocks (gdmaBlockClocks s)) } ∧
        (s.hdma.remaining ≤ 16 → t.hdma = { (copyBlock (current s)).hdma with mode := .none }) ∧
        (16 < s.hdma.remaining → t.hdma = (copyBlock (current s)).hdma))

/-! ## Interrupts -/

/-- R404, R475, R479, R481: an IRQCHK that acknowledges nothing. Without a request, or running with IME clear, it costs
nothing; halted with IME clear it wakes in 4 clocks and leaves the request; in STOP it only tests STOP_EXIT, which is
IF[4] by default. -/
def Obligations.IrqchkWithoutAcknowledge : Prop :=
  ∀ s : State, CpuMay s →
    (s.haltMode ≠ .stop → (current s).ifReg &&& s.ieReg &&& 0x1F = 0 →
      exec .irqchk s = .next { current s with response := some (.clocks 0) }) ∧
    (s.haltMode = .run → s.ime = false → exec .irqchk s = .next { current s with response := some (.clocks 0) }) ∧
    (s.haltMode = .halt → s.ime = false → (current s).ifReg &&& s.ieReg &&& 0x1F ≠ 0 → s.ref + 4 ≤ 0x7FFFFFFF →
      exec .irqchk s = .next { current s with haltMode := .run, ref := s.ref + 4, response := some (.clocks 4) }) ∧
    (s.haltMode = .stop → stopExit (current s) = true →
      exec .irqchk s = .next { current s with haltMode := .run, response := some (.clocks 0) }) ∧
    (s.haltMode = .stop → stopExit (current s) = false →
      exec .irqchk s = .next { current s with response := some (.clocks 0) }) ∧
    (s.haltMode = .stop → s.params.stopExit = .joypadPending →
      exec .irqchk s = .next { current s with
        haltMode := if (current s).ifReg.getLsbD 4 then .run else .stop, response := some (.clocks 0) })

/-- R404, R477, R478: an acknowledge takes 20 clocks, clears IME, moves SP down by 2 and leaves HALT, which adds
HALT_WAKE_EXTRA; it raises nothing where the clock has room. -/
def Obligations.AcknowledgeTakesTwentyClocks : Prop :=
  ∀ s : State, CpuMay s → s.haltMode ≠ .stop → s.ime = true → (current s).ifReg &&& s.ieReg &&& 0x1F ≠ 0 →
    s.ref + 20 + s.params.haltWakeExtra ≤ 0x7FFFFFFF →
    ∃ t, exec .irqchk s = .next t ∧ t.fault = none ∧ t.ime = false ∧ t.cpuSp = s.cpuSp - 2 ∧ t.haltMode = .run ∧
      (s.haltMode = .run → t.ref = s.ref + 20 ∧ t.response = some (.clocks 20)) ∧
      (s.haltMode = .halt → t.ref = s.ref + 20 + s.params.haltWakeExtra ∧
        t.response = some (.clocks (20 + s.params.haltWakeExtra)))

/-- R110, R471, R473, R474, R476, R477: where no subsystem raises anything meanwhile, the acknowledge pushes the PC
high byte first at SP - 1 and low byte at SP - 2, clears the IF bit of the lowest-numbered request and jumps to 0x0040
+ 8 × its number; with the stack in work RAM or in high RAM no other byte of it and no other register of the CPU's side
changes. A push into IE or IF has that register's effect before the request is resolved: where it clears every request,
IF is left as it is and the jump is to 0x0000. -/
def Obligations.AcknowledgePushesAndJumps : Prop :=
  (∀ (s : State) (k : Nat), CpuMay s → Quiet s → MemoryCanonical (current s) →
    s.haltMode ≠ .stop → s.ime = true →
    k < 5 → s.ifReg.getLsbD k = true → s.ieReg.getLsbD k = true →
    (∀ j, j < k → ¬ (s.ifReg.getLsbD j = true ∧ s.ieReg.getLsbD j = true)) →
    s.ref + 20 + s.params.haltWakeExtra ≤ 0x7FFFFFFF →
    (0xC002 ≤ s.cpuSp.toNat ∧ s.cpuSp.toNat ≤ 0xE000) ∨ 0xFF82 ≤ s.cpuSp.toNat →
    ∃ t, exec .irqchk s = .next t ∧
      t.cpuPc = BitVec.ofNat 16 (0x0040 + 8 * k) ∧
      (∀ j, j < 8 → t.ifReg.getLsbD j = (s.ifReg.getLsbD j && decide (j ≠ k))) ∧
      (s.cpuSp.toNat ≤ 0xE000 →
        t.wram.read (wramIndex s (s.cpuSp.toNat - 1)) = s.cpuPc.extractLsb' 8 8 ∧
        t.wram.read (wramIndex s (s.cpuSp.toNat - 2)) = s.cpuPc.extractLsb' 0 8 ∧
        (∀ j, j ≠ wramIndex s (s.cpuSp.toNat - 1) → j ≠ wramIndex s (s.cpuSp.toNat - 2) →
          t.wram.read j = s.wram.read j) ∧
        t.hram = s.hram) ∧
      (0xFF82 ≤ s.cpuSp.toNat →
        t.hram.read (s.cpuSp.toNat - 0xFF81) = s.cpuPc.extractLsb' 8 8 ∧
        t.hram.read (s.cpuSp.toNat - 0xFF82) = s.cpuPc.extractLsb' 0 8 ∧
        (∀ j, j ≠ s.cpuSp.toNat - 0xFF81 → j ≠ s.cpuSp.toNat - 0xFF82 → t.hram.read j = s.hram.read j) ∧
        t.wram = s.wram) ∧
      t.ioShadow = s.ioShadow ∧ t.ieReg = s.ieReg ∧ t.vbk = s.vbk ∧ t.svbk = s.svbk ∧
      t.mapper = s.mapper ∧ t.bootEnabled = s.bootEnabled ∧ t.breakFlag = s.breakFlag ∧ t.phase = s.phase ∧
      t.hdma = s.hdma ∧ t.odma.reg = s.odma.reg ∧ t.timer.tma = s.timer.tma ∧ t.timer.tac = s.timer.tac ∧
      t.ppu = s.ppu ∧ t.serial = s.serial ∧ t.joypad = s.joypad ∧ t.key1Prepare = s.key1Prepare ∧
      t.doubleSpeed = s.doubleSpeed ∧ t.family = s.family ∧ t.params = s.params ∧ t.rom = s.rom ∧ t.debt = s.debt) ∧
  (∀ (s : State) (ie irqs : Byte), CpuMay s → Quiet s → s.haltMode ≠ .stop → s.ime = true →
    s.ifReg &&& s.ieReg &&& 0x1F ≠ 0 → s.ref + 20 + s.params.haltWakeExtra ≤ 0x7FFFFFFF →
    (s.cpuSp = 0x0000 ∧ ie = s.cpuPc.extractLsb' 8 8 ∧ irqs = s.ifReg) ∨
      (s.cpuSp = 0x0001 ∧ ie = s.cpuPc.extractLsb' 0 8 ∧ irqs = s.ifReg) ∨
      (s.cpuSp = 0xFF10 ∧ ioRegOf s 0xFF0E = .unrecognized ∧ ie = s.ieReg ∧
        irqs = s.ifReg.extractLsb' 5 3 ++ s.cpuPc.extractLsb' 8 5) ∨
      (s.cpuSp = 0xFF11 ∧ ie = s.ieReg ∧ irqs = s.ifReg.extractLsb' 5 3 ++ s.cpuPc.extractLsb' 0 5) →
    ∃ t, exec .irqchk s = .next t ∧ t.fault = none ∧ t.ieReg = ie ∧ t.ime = false ∧ t.haltMode = .run ∧
      t.cpuSp = s.cpuSp - 2 ∧ t.breakFlag = true ∧
      (irqs &&& ie &&& 0x1F = 0 → t.cpuPc = 0x0000 ∧ t.ifReg = irqs) ∧
      (∀ k, k < 5 → irqs.getLsbD k = true → ie.getLsbD k = true →
        (∀ j, j < k → ¬ (irqs.getLsbD j = true ∧ ie.getLsbD j = true)) →
        t.cpuPc = BitVec.ofNat 16 (0x0040 + 8 * k) ∧
        ∀ j, j < 8 → t.ifReg.getLsbD j = (irqs.getLsbD j && decide (j ≠ k))))

/-! ## System control -/

/-- R400-R402, R407, R521: POWERON from every state, a faulted one included. The refusal mark, ROM, external RAM and
the mapper stay; the fields without a value here are draws or the collaborators' own. The anomalies it logs are CONFIG
ones, with the PC and the ROM bank as they stood. That the anomaly log is not cleared is the model's choice (log 24).
Each supplied collaborator's reset sees what POWERON has set before it, and the PC and the SP from before it; that this
is all it may depend on, and the PPU's half clock, are the model's (logs 11, 12). -/
def Obligations.PoweronResetsTheBlock : Prop :=
  ∀ (s : State) (model : BitVec 3) (boot cgb : Bool),
    ∃ t, exec (.poweron model boot cgb) s = .next t ∧
      t.params = { s.params with
        hwModel := (hwModelOfId model).getD .dmg
        bootRomPresent := boot
        cgbMode := cgb && (model == 4 || model == 5) } ∧
      t.fault = none ∧ t.ref = 0 ∧ (∀ sub : Subsystem, t.last.get sub = 0) ∧ t.segTarget = 0 ∧ t.debt = 0 ∧
      t.burstStart = 0 ∧ t.horizon = 0x7FFFFFFF ∧ t.phase = .idle ∧ t.breakFlag = false ∧ t.bootEnabled = boot ∧
      t.family = (if (model = 4 ∨ model = 5) ∧ cgb = true then .cgb else .dmg) ∧
      t.dispatchSet = sel t.family boot ∧ t.doubleSpeed = false ∧ t.key1Prepare = false ∧ t.ime = false ∧
      t.haltMode = .run ∧ t.vbk = 0 ∧ t.svbk = 0 ∧ t.cpuPc = (if boot then 0x0000 else 0x0100) ∧
      t.timer.reloadCd = 0 ∧ t.timer.irqCd = 0 ∧
      t.odma.active = false ∧ t.odma.elapsed = 0 ∧ t.odma.copied = 0 ∧
      t.hdma.mode = .none ∧ t.hdma.remaining = 0 ∧ t.hdma.prepLeft = 0 ∧ t.hdma.copyLeft = 0 ∧ t.hdma.stall = 0 ∧
      t.hdma.lastLy = none ∧
      t.rom = s.rom ∧ t.eram = s.eram ∧ t.mapper = s.mapper ∧ t.refused = s.refused ∧ t.inputs = s.inputs ∧
      (boot = true → t.bootRom = s.bootImage) ∧
      t.anomalies = s.anomalies ++ List.replicate
        ((if 6 ≤ model.toNat then 1 else 0) + (if cgb = true ∧ model ≠ 4 ∧ model ≠ 5 then 1 else 0))
        { kind := .config, access := none, pc := s.cpuPc, romBank := romCurr s } ∧
      (∀ c : Collab, ∃ u : State, u.cpuPc = s.cpuPc ∧ u.cpuSp = s.cpuSp ∧ u.params = t.params ∧ u.family = t.family ∧
        u.ieReg = t.ieReg ∧ u.ifReg = t.ifReg ∧ u.vram = t.vram ∧ u.wram = t.wram ∧ u.oam = t.oam ∧ u.ref = 0 ∧
        (c = .ppu → s.params.hasPpu = true → t.ppu = { Config.ppuReset (collabView u) with halfClock := false }) ∧
        (c = .serial → s.params.hasSerial = true → t.serial = Config.collabReset .serial (collabView u)) ∧
        (c = .sound → s.params.hasSound = true → t.sound = Config.collabReset .sound (collabView u)) ∧
        (c = .camera → s.params.hasCamera = true → t.camera.own = Config.collabReset .camera (collabView u) ∧
          t.camera.frame = Config.cameraResetFrame (collabView u)))

/-- R403, R433, R450, R451, R457: each of the ten MAPPERSET forms (NONE, MBC1, MBC2, MBC3, MBC5, MBC6, MBC7, MMM01,
RUMBLE, CAMERA) completes and binds the variant, in the default layouts with RAM disabled, ROM bank register 1 and RAM
bank 0, or the supplied mapper model of that kind; MBC6 logs UNSUPPORTED, once in the run under way (that the record
comes after the binding, and that the log itself outlives a POWERON, are the model's, log 24). Nothing else changes.
POWERON selects the renderer of the model and the CGB request. -/
def Obligations.MappersetBindsTheVariant : Prop :=
  (∀ (s : State) (kind : MapperKind), Ready s →
    ∃ t, exec (mappersetOf kind) s = .next t ∧
      t = { s with mapper := t.mapper, anomalies := t.anomalies, response := none } ∧
      t.mapper.kind = kind ∧
      (kind ≠ .mbc6 → t.anomalies = s.anomalies) ∧
      (kind = .mbc6 → (∃ a ∈ s.anomalies.drop s.runStart, a.kind = .unsupportedMbc6) → t.anomalies = s.anomalies) ∧
      (kind = .mbc6 → (∀ a ∈ s.anomalies.drop s.runStart, a.kind ≠ .unsupportedMbc6) →
        t.anomalies = s.anomalies ++
          [{ kind := .unsupportedMbc6, access := none, pc := s.cpuPc, romBank := romCurr t }]) ∧
      (s.params.mapperSupplied = true → ∃ m, t.mapper = .supplied kind m) ∧
      (s.params.mapperSupplied = false → ∀ m, t.mapper ≠ .supplied kind m) ∧
      (s.params.mapperSupplied = false → kind = .none → t.mapper = .none) ∧
      (s.params.mapperSupplied = false → kind = .mbc1 →
        t.mapper = .mbc1 { ramEnabled := false, bank := 1, upper := 0, mode := false }) ∧
      (s.params.mapperSupplied = false → kind = .mbc3 →
        ∃ m, t.mapper = .mbc3 m ∧ m.ramEnabled = false ∧ m.bank = 1 ∧ m.select = 0) ∧
      (s.params.mapperSupplied = false → kind = .mbc5 →
        t.mapper = .mbc5 { ramEnabled := false, bank := 1, ramBank := 0 })) ∧
  (∀ (s : State) (model : BitVec 3) (boot cgb : Bool),
    ∃ t, exec (.poweron model boot cgb) s = .next t ∧
      t.renderer = (if model = 4 ∨ model = 5 then (if cgb = true then .cgb else .cgbCompat) else .dmg))

/-- R450-R453: writes to 0x0000-0x7FFF in the default layouts, and what they leave unchanged. Below 0x2000 RAM is
enabled if and only if the low nibble is 0xA; 0x2000-0x3FFF writes the ROM bank register, 0x4000-0x5FFF the RAM bank,
the clock register (MBC3) or the upper bits (MBC1), 0x6000-0x7FFF the MBC1's mode; mapper None ignores every write. A
bank-select write on MBC1 (upper bits 0), MBC3 and MBC5 selects bank `B & (ROM_BANKS - 1)`, bank 0 aliased to 1 on MBC1
and MBC3. That bit 0 of the byte is the MBC1's mode, that an MBC5 write to 0x6000-0x7FFF changes nothing, and what the
upper bits make of the ROM bank where they are not 0, are the model's (log 17); the writes of MBC3 to 0x6000-0x7FFF are
in RtcLatchAndEepromCommit. -/
def Obligations.BankRegisterWrites : Prop :=
  ∀ (s : State) (a : Addr) (v : Byte), CpuMay s →
    (s.mapper = .none → a.toNat ≤ 0x7FFF → exec (.wr8 a v) s = .next (current s) ∧ romCurr s = 1 ∧ romLow s = 0) ∧
    (∀ m, s.mapper = .mbc1 m →
      (a.toNat ≤ 0x1FFF → exec (.wr8 a v) s = .next { current s with
        mapper := .mbc1 { m with ramEnabled := decide (v.toNat % 16 = 0xA) } }) ∧
      (0x2000 ≤ a.toNat → a.toNat ≤ 0x3FFF → exec (.wr8 a v) s = .next { current s with
        mapper := .mbc1 { m with bank := BitVec.ofNat 5 (v.toNat % 32) } }) ∧
      (0x4000 ≤ a.toNat → a.toNat ≤ 0x5FFF → exec (.wr8 a v) s = .next { current s with
        mapper := .mbc1 { m with upper := BitVec.ofNat 2 (v.toNat % 4) } }) ∧
      (0x6000 ≤ a.toNat → a.toNat ≤ 0x7FFF → exec (.wr8 a v) s = .next { current s with
        mapper := .mbc1 { m with mode := decide (v.toNat % 2 = 1) } })) ∧
    (∀ m, s.mapper = .mbc3 m →
      (a.toNat ≤ 0x1FFF → exec (.wr8 a v) s = .next { current s with
        mapper := .mbc3 { m with ramEnabled := decide (v.toNat % 16 = 0xA) } }) ∧
      (0x2000 ≤ a.toNat → a.toNat ≤ 0x3FFF → exec (.wr8 a v) s = .next { current s with
        mapper := .mbc3 { m with bank := BitVec.ofNat 7 (v.toNat % 128) } }) ∧
      (0x4000 ≤ a.toNat → a.toNat ≤ 0x5FFF → exec (.wr8 a v) s = .next { current s with
        mapper := .mbc3 { m with select := BitVec.ofNat 4 (v.toNat % 16) } })) ∧
    (∀ m, s.mapper = .mbc5 m →
      (a.toNat ≤ 0x1FFF → exec (.wr8 a v) s = .next { current s with
        mapper := .mbc5 { m with ramEnabled := decide (v.toNat % 16 = 0xA) } }) ∧
      (0x2000 ≤ a.toNat → a.toNat ≤ 0x2FFF → exec (.wr8 a v) s = .next { current s with
        mapper := .mbc5 { m with bank := BitVec.ofNat 9 (m.bank.toNat / 256 * 256 + v.toNat) } }) ∧
      (0x3000 ≤ a.toNat → a.toNat ≤ 0x3FFF → exec (.wr8 a v) s = .next { current s with
        mapper := .mbc5 { m with bank := BitVec.ofNat 9 (v.toNat % 2 * 256 + m.bank.toNat % 256) } }) ∧
      (0x4000 ≤ a.toNat → a.toNat ≤ 0x5FFF → exec (.wr8 a v) s = .next { current s with
        mapper := .mbc5 { m with ramBank := BitVec.ofNat 4 (v.toNat % 16) } }) ∧
      (0x6000 ≤ a.toNat → a.toNat ≤ 0x7FFF → exec (.wr8 a v) s = .next (current s))) ∧
    (∀ m, s.mapper = .mbc1 m → m.upper = 0 → 0x2000 ≤ a.toNat → a.toNat ≤ 0x3FFF →
      ∃ t, exec (.wr8 a v) s = .next t ∧ t = { current s with mapper := t.mapper } ∧
        romCurr t = (if (v.toNat % 32) &&& (s.params.romBanks - 1) = 0 then 1
          else (v.toNat % 32) &&& (s.params.romBanks - 1))) ∧
    (∀ m, s.mapper = .mbc3 m → 0x2000 ≤ a.toNat → a.toNat ≤ 0x3FFF →
      ∃ t, exec (.wr8 a v) s = .next t ∧ t = { current s with mapper := t.mapper } ∧
        romCurr t = (if (v.toNat % 128) &&& (s.params.romBanks - 1) = 0 then 1
          else (v.toNat % 128) &&& (s.params.romBanks - 1))) ∧
    (∀ m, s.mapper = .mbc5 m → 0x2000 ≤ a.toNat → a.toNat ≤ 0x2FFF →
      ∃ t, exec (.wr8 a v) s = .next t ∧ t = { current s with mapper := t.mapper } ∧
        romCurr t = (m.bank.toNat / 256 * 256 + v.toNat) &&& (s.params.romBanks - 1)) ∧
    (∀ m, s.mapper = .mbc5 m → 0x3000 ≤ a.toNat → a.toNat ≤ 0x3FFF →
      ∃ t, exec (.wr8 a v) s = .next t ∧ t = { current s with mapper := t.mapper } ∧
        romCurr t = (v.toNat % 2 * 256 + m.bank.toNat % 256) &&& (s.params.romBanks - 1))

/-- R96, R105, R450, R452: with RAM enabled and its bank present a byte written to external RAM reads back and no other
byte of it changes (MBC2 keeps the low nibble, under 0xF0); an absent bank, and disabled RAM on any mapper but MBC6
(R457), a supplied one and the Camera's included, read 0xFF and ignore the write. Which RAM bank an MBC1 uses by its
mode (log 17), the bank registers of MMM01 and Rumble (log 16), and that an MBC3 select without a meaning in R451 has
nothing there (log 18), are the model's. -/
def Obligations.ExternalRamRoundTrip : Prop :=
  ∀ (s : State) (a : Addr) (v : Byte), CpuMay s → CounterBounds s → MemoryCanonical (current s) →
    s.params.oamDmaBusConflict = false → 0xA000 ≤ a.toNat → a.toNat ≤ 0xBFFF →
    (∀ b, RamSelected s.mapper b → b < s.params.eramBanks →
      ∃ t, exec (.wr8 a v) s = .next t ∧ t = { current s with eram := t.eram } ∧
        (∀ j, j ≠ b * 0x2000 + (a.toNat - 0xA000) → t.eram.read j = (current s).eram.read j) ∧
        exec (.rd8 a) t = .next { t with response := some (.byte v) }) ∧
    (∀ m, s.mapper = .mbc2 m → m.ramEnabled = true → m.ramBank < s.params.eramBanks →
      ∃ t, exec (.wr8 a v) s = .next t ∧ t = { current s with eram := t.eram } ∧
        (∀ j, j ≠ m.ramBank * 0x2000 + (a.toNat - 0xA000) → t.eram.read j = (current s).eram.read j) ∧
        exec (.rd8 a) t = .next { t with response := some (.byte (0xF0 ||| (v &&& 0x0F))) }) ∧
    ((∃ b, RamSelected s.mapper b ∧ s.params.eramBanks ≤ b) ∨
        (∃ m, s.mapper = .mbc2 m ∧ m.ramEnabled = true ∧ s.params.eramBanks ≤ m.ramBank) ∨ RamDisabled s.mapper →
      exec (.wr8 a v) s = .next (current s) ∧
      exec (.rd8 a) s = .next { current s with response := some (.byte 0xFF) })

/-- R454, R455. The latching edge (0x00, then 0x01, to 0x6000-0x7FFF) copies the running registers of MBC3 to the
latched copy, and any other byte there only says whether the next 0x01 latches. With the clock emulated the running
registers are the clock's; with the host's they are draws. A read of the window with a clock register selected, 0x8 to
0xC, gives its latched byte. Log 18's are: that the two writes stand next to each other, the registers' order and
packing, how the running clock counts, and that a byte written to the window there goes to the running register and
leaves the latched copy and external RAM. On MBC7 a byte written to 0xA080 moves the pins; a rising CS edge in the
shift-out-complete state commits the pending write to the addressed EEPROM cell and to no other, and a rising SK edge
while idle with the data bit set begins a command; the stored levels are always the pins'. The rest is log 19's: that
the pins are reached with RAM enabled only, and what the rest of the window does; that the shift-out-complete state is
DONE, which a rising CS edge leaves with nothing pending, also where no write was, and that one byte that moves both
pins acts by one of the two edges (DESIGN CHOICE); that without an edge nothing changes (DEDUCED); which bits are the
pins, and what the other edges do (free). -/
def Obligations.RtcLatchAndEepromCommit : Prop :=
  (∀ (s : State) (a : Addr) (m : Mbc3), CpuMay s → s.mapper = .mbc3 m → 0x6000 ≤ a.toNat → a.toNat ≤ 0x7FFF →
    (∀ v : Byte, v ≠ 0x01 ∨ m.latchArmed = false →
      exec (.wr8 a v) s = .next { current s with mapper := .mbc3 { m with latchArmed := v == 0x00 } }) ∧
    (m.latchArmed = true → s.params.rtcSource = .emulated →
      ∃ t m', exec (.wr8 a 0x01) s = .next t ∧ t = { current s with mapper := .mbc3 m' } ∧
        m'.latched = rtcNow s m ∧ m'.running = rtcNow s m ∧ m'.latchArmed = false ∧ m'.select = m.select ∧
        m'.bank = m.bank ∧ m'.ramEnabled = m.ramEnabled ∧ m'.since = s.epoch + s.ref) ∧
    (∀ d : Nat, m.latchArmed = true → s.params.rtcSource = .host → d = (current s).draws →
      exec (.wr8 a 0x01) s = .next { current s with
        draws := d + 5
        mapper := .mbc3 { m with
          latchArmed := false
          latched := {
            seconds := Config.draw d, minutes := Config.draw (d + 1), hours := Config.draw (d + 2)
            days := (Config.draw (d + 4)).extractLsb' 0 1 ++ Config.draw (d + 3)
            halt := (Config.draw (d + 4)).getLsbD 6, carry := (Config.draw (d + 4)).getLsbD 7 } } })) ∧
  (∀ (s : State) (a : Addr) (b : Byte), CpuMay s → ¬ conflicts (current s) a → 0xA000 ≤ a.toNat → a.toNat ≤ 0xBFFF →
    ClockByte s.mapper b → exec (.rd8 a) s = .next { current s with response := some (.byte b) }) ∧
  (∀ (s : State) (a : Addr) (v : Byte) (m : Mbc3), CpuMay s → 0xA000 ≤ a.toNat → a.toNat ≤ 0xBFFF →
    s.mapper = .mbc3 m → m.ramEnabled = true → 0x8 ≤ m.select.toNat → m.select.toNat ≤ 0xC →
    ∃ running, exec (.wr8 a v) s = .next { current s with
        mapper := .mbc3 { m with running := running, since := s.epoch + s.ref } } ∧
      (m.select = 0x8 → running = { rtcNow s m with seconds := v }) ∧
      (m.select = 0x9 → running = { rtcNow s m with minutes := v }) ∧
      (m.select = 0xA → running = { rtcNow s m with hours := v }) ∧
      (m.select = 0xB → running = { rtcNow s m with days := (rtcNow s m).days.extractLsb' 8 1 ++ v }) ∧
      (m.select = 0xC → running = { rtcNow s m with
        days := v.extractLsb' 0 1 ++ (rtcNow s m).days.extractLsb' 0 8, halt := v.getLsbD 6, carry := v.getLsbD 7 })) ∧
  (∀ (s : State) (m : Mbc3) (r : Rtc) (k : Nat), s.params.rtcSource = .emulated → r = rtcNow s m →
    k = Config.rtcSeconds (s.epoch + s.ref) - Config.rtcSeconds m.since →
    (m.running.halt = true → r = m.running) ∧
    (m.running.halt = false → m.running.seconds.toNat < 60 → m.running.minutes.toNat < 60 → m.running.hours.toNat < 24 →
      r.seconds.toNat < 60 ∧ r.minutes.toNat < 60 ∧ r.hours.toNat < 24 ∧ r.halt = false ∧
      rtcTime r = (rtcTime m.running + k) % (512 * 86400) ∧
      r.carry = (m.running.carry || decide (512 * 86400 ≤ rtcTime m.running + k)))) ∧
  (∀ (s : State) (a : Addr) (v : Byte) (m : Mbc7), CpuMay s → 0xA000 ≤ a.toNat → a.toNat ≤ 0xBFFF →
    s.mapper = .mbc7 m → m.banks.ramEnabled = true →
    (a = 0xA080 → exec (.wr8 a v) s = .next { current s with mapper := .mbc7 (m.pinWrite v) }) ∧
    (a ≠ 0xA080 → ∃ core, exec (.wr8 a v) s = .next { current s with
      draws := (current s).draws + 4, mapper := .mbc7 { m with banks := { m.banks with core := core } } }) ∧
    (¬ conflicts (current s) a → exec (.rd8 a) s = .next { current s with
      response := some (.byte (Config.mbc7Read m.eeprom m.cell m.banks.core a)) })) ∧
  (∀ (m : Mbc7) (v : Byte),
    (m.eeprom.cs = false → m.eeprom.phase = .done → (Config.mbc7Pins v).cs = true →
      (m.pinWrite v).eeprom.phase = .idle ∧ (m.pinWrite v).eeprom.pending = none ∧
      (m.eeprom.pending = none → (m.pinWrite v).cells = m.cells)) ∧
    (∀ w, m.eeprom.cs = false → m.eeprom.phase = .done → m.eeprom.pending = some w →
      ((Config.mbc7Pins v).cs = true ∨ (Config.mbc7Pins v).sk = m.eeprom.sk →
        (m.pinWrite v).cell m.eeprom.address =
          (if (Config.mbc7Pins v).cs then w else m.cell m.eeprom.address) ∧
        (∀ a, a ≠ m.eeprom.address → (m.pinWrite v).cell a = m.cell a)) ∧
      (m.pinWrite v).banks = m.banks) ∧
    ((Config.mbc7Pins v).cs = m.eeprom.cs → (Config.mbc7Pins v).sk = m.eeprom.sk → m.pinWrite v = m) ∧
    (m.pinWrite v).eeprom.cs = (Config.mbc7Pins v).cs ∧ (m.pinWrite v).eeprom.sk = (Config.mbc7Pins v).sk ∧
    (m.eeprom.sk = false → m.eeprom.phase = .idle →
      (m.pinWrite v).eeprom.phase =
        (if (Config.mbc7Pins v).sk && (Config.mbc7Pins v).dataIn then .receiveCommand
          else if (Config.mbc7Pins v).cs = m.eeprom.cs ∧ (Config.mbc7Pins v).sk = false then .idle
          else (Config.mbc7Other m.eeprom.command m.eeprom (Config.mbc7Pins v) m.cell).phase) ∧
      (m.pinWrite v).cells =
        (if (Config.mbc7Pins v).sk && (Config.mbc7Pins v).dataIn then m.cells
          else if (Config.mbc7Pins v).cs = m.eeprom.cs ∧ (Config.mbc7Pins v).sk = false then m.cells
          else (m.pinWrite v).cells) ∧
      (m.pinWrite v).banks = m.banks))

/-- R443, R444, R446, R490: a serial transfer that completes on a clock sets IF[3] and receives 0xFF without a partner,
a draw with one; without a partner a transfer on the external clock never completes. A capture on a clock of the camera
takes the sensor frame, copies it byte by byte into cartridge RAM as far as the cartridge has it, and logs an
unsupported filter, once in the run under way; a clock that completes or captures nothing changes the collaborator's
own state only. When a transfer completes, and that RESOURCE is logged at each completion without a partner (log 13),
when a capture happens (log 11), its frame and its place, and that RESOURCE is logged at each capture without a device
(log 14), are the model's. -/
def Obligations.SerialCompletesAndCameraCaptures : Prop :=
  (∀ (s t : State) (core : List Byte), s.params.hasSerial = true →
    core = Config.collabTick .serial (collabContext s) s.serial.core → t = advance .serial 1 s →
    (s.serial.wait = some 1 → s.params.serialPartner = false →
      Config.serialCompletes core = true → Config.serialExternalClock core = false →
      t = { s with
        serial := Config.collabEvent .serial (Config.serialReceive core 0xFF), ifReg := s.ifReg ||| 0x08
        anomalies := s.anomalies ++ [{ kind := .resourceSerial, access := none, pc := s.cpuPc, romBank := romCurr s }] }) ∧
    (s.serial.wait = some 1 → s.params.serialPartner = true → Config.serialCompletes core = true →
      t = { s with
        serial := Config.collabEvent .serial (Config.serialReceive core (Config.draw s.draws))
        ifReg := s.ifReg ||| 0x08, draws := s.draws + 1 }) ∧
    (s.serial.wait = some 1 → Config.serialCompletes core = false ∨
        (s.params.serialPartner = false ∧ Config.serialExternalClock core = true) →
      t = { s with serial := Config.collabEvent .serial core }) ∧
    (s.serial.wait ≠ some 1 →
      t = { s with serial := { core := core, wait := s.serial.wait.map (fun n => n - 1) } })) ∧
  (∀ (s t : State) (core frame : List Byte) (base : Nat), s.params.hasCamera = true → s.eram.wf = true →
    core = Config.collabTick .camera (collabContext s) s.camera.own.core →
    frame = Config.cameraFrame s.params.cameraDevice core → base = Config.cameraTarget core → t = advance .camera 1 s →
    (s.camera.own.wait = some 1 → Config.cameraCaptures core = true →
      t = { s with
        camera := { own := Config.collabEvent .camera core, frame := frame }, eram := t.eram, anomalies := s.anomalies ++
          (if Config.cameraFilterUnsupported core &&
              !(s.anomalies.drop s.runStart).any (fun a => a.kind == .unsupportedCameraFilter)
            then [{ kind := .unsupportedCameraFilter, access := none, pc := s.cpuPc, romBank := romCurr s }] else []) ++
          (if s.params.cameraDevice then []
            else [{ kind := .resourceCamera, access := none, pc := s.cpuPc, romBank := romCurr s }]) } ∧
      (∀ i b, frame[i]? = some b → base + i < s.params.eramBanks * 0x2000 → t.eram.read (base + i) = b) ∧
      (∀ j, j < base ∨ base + frame.length ≤ j ∨ s.params.eramBanks * 0x2000 ≤ j → t.eram.read j = s.eram.read j)) ∧
    (s.camera.own.wait = some 1 → Config.cameraCaptures core = false →
      t = { s with camera := { s.camera with own := Config.collabEvent .camera core } }) ∧
    (s.camera.own.wait ≠ some 1 →
      t = { s with camera := { s.camera with
        own := { core := core, wait := s.camera.own.wait.map (fun n => n - 1) } } }))

/-- R405, R482: CPUSET sets one piece of CPU context and reconciles nothing; STOP on the CGB family with the switch
prepared switches the speed instead. -/
def Obligations.CpusetSetsTheContext : Prop :=
  ∀ (s : State) (a : Addr) (b : Bool), Ready s →
    exec (.cpusetPc a) s = .next { s with cpuPc := a, response := none } ∧
    exec (.cpusetSp a) s = .next { s with cpuSp := a, response := none } ∧
    exec (.cpusetIme b) s = .next { s with ime := b, response := none } ∧
    exec .cpusetHaltRun s = .next { s with haltMode := .run, response := none } ∧
    exec .cpusetHaltHalt s = .next { s with haltMode := .halt, response := none } ∧
    (¬ (s.params.speedSwitch = .onStop ∧ s.family = .cgb ∧ s.key1Prepare = true) →
      exec .cpusetHaltStop s = .next { s with haltMode := .stop, response := none }) ∧
    (s.params.speedSwitch = .onStop ∧ s.family = .cgb ∧ s.key1Prepare = true →
      s.ref + s.params.speedSwitchClocks ≤ 0x7FFFFFFF →
      exec .cpusetHaltStop s = .next { s with
        doubleSpeed := !s.doubleSpeed, key1Prepare := false, haltMode := .run
        ref := s.ref + s.params.speedSwitchClocks, response := none })

/-! ## The scheduler -/

/-- R246-R249, R253, R367: a burst of RUNFOR, and its steps in which no instruction runs. The burst starts with the
horizon HORIZON gives, cut to the segment, and the break flag clear; it runs burst steps and ends after the first one
that faults, or leaves the break flag set, or has brought the clock to the horizon, the flag cleared again; where a
subsystem is overdue it ends with F_NEXTEVT before any step (log 28). The HBlank stall is paid in one step; a halted
CPU advances to the burst's end rounded up to HALT_GRANULE. -/
def Obligations.BurstsAndTheirIdleSteps : Prop :=
  (∀ (s : State) (h H : Nat), Ready s → (s.ref : Int) < s.segTarget →
    exec .horizon s = .next { current s with horizon := h, response := some (.clocks h) } →
    H = min h (s.segTarget - s.ref).toNat →
    ∃ (n : Nat) (trace : Nat → State) (t : State),
      trace 0 = { reconcileAll s with horizon := H, burstStart := s.ref, breakFlag := false } ∧
      (∀ i, i < n → trace (i + 1) = burstStep (trace i) ∧ (trace (i + 1)).fault = none ∧
        (trace (i + 1)).breakFlag = false ∧ (trace (i + 1)).ref - (trace (i + 1)).burstStart < H) ∧
      t = burstStep (trace n) ∧
      (t.fault ≠ none ∨ t.breakFlag = true ∨ H ≤ t.ref - t.burstStart) ∧
      burst s = (if t.fault = none then { t with breakFlag := false } else t)) ∧
  (∀ s : State, Ready s → (∃ sub, sub ≠ .camera ∧ nextEvent sub (current s) = 0) →
    burst s = { reconcileAll s with fault := some .nextevt }) ∧
  (∀ s : State, Ready s → s.hdma.mode ≠ .general → 0 < s.hdma.stall → s.ref + s.hdma.stall ≤ 0x7FFFFFFF →
    burstStep s = { s with ref := s.ref + s.hdma.stall, hdma := { s.hdma with stall := 0 } }) ∧
  (∀ s : State, CpuMay s → s.hdma.stall = 0 → s.haltMode = .halt → (current s).ifReg &&& s.ieReg &&& 0x1F = 0 →
    s.ref - s.burstStart < s.horizon → 1 ≤ s.params.haltGranule → s.burstStart ≤ s.ref →
    s.ref + (s.burstStart + s.horizon - s.ref + s.params.haltGranule) ≤ 0x7FFFFFFF →
    (burstStep s).fault = none ∧ (burstStep s).haltMode = .halt ∧
    s.burstStart + s.horizon ≤ (burstStep s).ref ∧
    (burstStep s).ref < s.burstStart + s.horizon + s.params.haltGranule ∧
    ((burstStep s).ref - s.ref) % s.params.haltGranule = 0)

/-- R246, R250: where the debt covers the budget no burst runs: RUNFOR reconciles, pays, and rebases the clock. The count
`epoch` of the clocks rebased away is the model's own field (log 27). -/
def Obligations.RunforOnlyPaysTheDebt : Prop :=
  ∀ (s : State) (n : Count), Ready s → CounterBounds s → (n.toNat : Int) - s.debt ≤ s.ref →
    ∃ t, exec (.runfor n) s = .next t ∧
      t = { reconcileAll { begun s with phase := .burst, segTarget := n.toNat - s.debt } with
            phase := .idle, debt := s.ref - (n.toNat - s.debt), ref := 0
            last := { timer := 0, serial := 0, ppu := 0, sound := 0, dma := 0, camera := 0 }
            burstStart := 0, epoch := s.epoch + s.ref }

/-- R246, R250: RUNFOR runs bursts, one after the other while no fault stands and the target is not reached, then
reconciles and rebases; every RUNFOR answers a next state in which the segment is over: idle, every counter at 0, the debt
the overrun of the target; the parameters, the cartridge and the host's queue are as before. The count `epoch` is the
model's own field (log 27). -/
def Obligations.RunforEndsTheSegment : Prop :=
  ∀ (s : State) (n : Count), Ready s → CounterBounds s →
    ∃ t, exec (.runfor n) s = .next t ∧ t.phase = .idle ∧ t.ref = 0 ∧ (∀ sub : Subsystem, t.last.get sub = 0) ∧
      t.burstStart = 0 ∧ t.response = none ∧ t.segTarget = n.toNat - s.debt ∧
      t.debt = (t.epoch : Int) - s.epoch - t.segTarget ∧ s.epoch + s.ref ≤ t.epoch ∧
      t.params = s.params ∧ t.family = s.family ∧ t.renderer = s.renderer ∧ t.rom = s.rom ∧ t.bootRom = s.bootRom ∧
      t.bootImage = s.bootImage ∧ t.inputs = s.inputs ∧ t.cartRtc = s.cartRtc ∧
      ∃ (k : Nat) (trace : Nat → State) (u : State),
        trace 0 = { begun s with phase := .burst, segTarget := n.toNat - s.debt } ∧
        (∀ i, i < k → (trace i).fault = none ∧ ((trace i).ref : Int) < (trace i).segTarget ∧
          trace (i + 1) = burst (trace i)) ∧
        ((trace k).fault ≠ none ∨ (trace k).segTarget ≤ (trace k).ref) ∧ u = reconcileAll (trace k) ∧
        t = { u with
          phase := .idle, debt := u.ref - u.segTarget, epoch := u.epoch + u.ref, ref := 0
          last := { timer := 0, serial := 0, ppu := 0, sound := 0, dma := 0, camera := 0 }
          burstStart := 0, response := none }

/-- R246, R248, R249, R250: a RUNFOR that ends without a fault has reached its target, so the debt is not negative: every
burst ends, and every burst advances the clock. -/
def Obligations.RunforReachesItsTarget : Prop :=
  ∀ (s t : State) (n : Count), exec (.runfor n) s = .next t → t.fault = none → 0 ≤ t.debt

/-! ## Invariants of every step -/

/-- R34 (R33, R288): every step keeps the clock in its range and every counter at or below it, from every state that
is so; the counters are 0 at reset and after every POWERON. -/
def Obligations.StepKeepsTheCounterBounds : Prop :=
  (∀ s t : State, CounterBounds s → step s = .next t → CounterBounds t) ∧
  (∀ sub : Subsystem, State.reset.last.get sub = 0) ∧
  (∀ (s t : State) (m : BitVec 3) (b c : Bool), exec (.poweron m b c) s = .next t → ∀ sub : Subsystem, t.last.get sub = 0)

/-- R49: every step keeps every array in its canonical form. -/
def Obligations.StepKeepsMemoryCanonical : Prop :=
  ∀ s t : State, MemoryCanonical s → step s = .next t → MemoryCanonical t

/-- R46-R48, R371: every step keeps the countdowns and the DMA counters in their ranges. -/
def Obligations.StepKeepsTheFieldRanges : Prop :=
  ∀ s t : State, FieldRanges s → step s = .next t → FieldRanges t

/-- R41 (R39, R40, R177, R433): every step keeps the dispatch set the one of the family and the boot flag, which is one
of the four sets, and it is so at reset; no command but POWERON sets the boot flag or changes the family or the
renderer. -/
def Obligations.DispatchChangesOneWay : Prop :=
  (∀ s t : State, DispatchSelected s → step s = .next t → DispatchSelected t) ∧
  sel .dmg true = .dmgBoot ∧ sel .dmg false = .dmgNoboot ∧ sel .cgb true = .cgbBoot ∧ sel .cgb false = .cgbNoboot ∧
  State.reset.dispatchSet = sel State.reset.family State.reset.bootEnabled ∧
  (∀ (i : Instr) (s t : State), exec i s = .next t → ¬ isPoweron i →
    t.family = s.family ∧ t.renderer = s.renderer ∧ (t.bootEnabled = true → s.bootEnabled = true))

/-- The four invariants hold right after reset. -/
def Obligations.InvariantsHoldAtReset : Prop :=
  CounterBounds State.reset ∧ MemoryCanonical State.reset ∧ FieldRanges State.reset ∧ DispatchSelected State.reset

/-- R33-R48, R50, R55, R407, R433, R521: the reset values the spec gives to the block's fields, after POWERON of a DMG without
a boot ROM (that State.reset is that one, and what the fields the spec leaves to draws hold, are the model's, log 6). -/
def Obligations.ResetValues : Prop :=
  State.reset.ref = 0 ∧ (∀ sub : Subsystem, State.reset.last.get sub = 0) ∧ State.reset.segTarget = 0 ∧
  State.reset.debt = 0 ∧ State.reset.burstStart = 0 ∧ State.reset.horizon = 0x7FFFFFFF ∧ State.reset.phase = .idle ∧
  State.reset.breakFlag = false ∧ State.reset.bootEnabled = State.reset.params.bootRomPresent ∧
  State.reset.doubleSpeed = false ∧ State.reset.key1Prepare = false ∧ State.reset.ime = false ∧
  State.reset.haltMode = .run ∧ State.reset.timer.reloadCd = 0 ∧ State.reset.timer.irqCd = 0 ∧
  State.reset.odma.active = false ∧ State.reset.odma.elapsed = 0 ∧ State.reset.odma.copied = 0 ∧
  State.reset.hdma.mode = .none ∧ State.reset.hdma.remaining = 0 ∧ State.reset.hdma.prepLeft = 0 ∧
  State.reset.hdma.copyLeft = 0 ∧ State.reset.hdma.stall = 0 ∧ State.reset.hdma.lastLy = none ∧
  State.reset.vbk = 0 ∧ State.reset.svbk = 0 ∧ State.reset.fault = none ∧ State.reset.refused = false ∧
  State.reset.cpuPc = 0x0100 ∧ State.reset.params.hwModel = .dmg ∧ State.reset.family = .dmg ∧
  State.reset.dispatchSet = .dmgNoboot ∧ State.reset.renderer = .dmg
end

