-- ==== Sys2Proof/Laws/State.lean ====
section
/-! SUPPORT. What each plain update of the block state leaves alone, one equation per field, true by computation; one
statement per update, which simp reads as one rule per field. -/

namespace Sys2Proof.Machine

/-- raiseIrq writes ifReg only. -/
@[simp] theorem raiseIrq_keeps (i : Nat) (s : State) :
    (raiseIrq i s).params = s.params ∧ (raiseIrq i s).ref = s.ref ∧ (raiseIrq i s).last = s.last ∧
    (raiseIrq i s).segTarget = s.segTarget ∧ (raiseIrq i s).debt = s.debt ∧ (raiseIrq i s).burstStart = s.burstStart ∧
    (raiseIrq i s).horizon = s.horizon ∧ (raiseIrq i s).phase = s.phase ∧ (raiseIrq i s).epoch = s.epoch ∧
    (raiseIrq i s).breakFlag = s.breakFlag ∧ (raiseIrq i s).bootEnabled = s.bootEnabled ∧
    (raiseIrq i s).family = s.family ∧ (raiseIrq i s).dispatchSet = s.dispatchSet ∧
    (raiseIrq i s).renderer = s.renderer ∧ (raiseIrq i s).doubleSpeed = s.doubleSpeed ∧
    (raiseIrq i s).key1Prepare = s.key1Prepare ∧ (raiseIrq i s).ieReg = s.ieReg ∧ (raiseIrq i s).ime = s.ime ∧
    (raiseIrq i s).haltMode = s.haltMode ∧ (raiseIrq i s).cpuPc = s.cpuPc ∧ (raiseIrq i s).cpuSp = s.cpuSp ∧
    (raiseIrq i s).timer = s.timer ∧ (raiseIrq i s).odma = s.odma ∧ (raiseIrq i s).hdma = s.hdma ∧
    (raiseIrq i s).rom = s.rom ∧ (raiseIrq i s).eram = s.eram ∧ (raiseIrq i s).vram = s.vram ∧
    (raiseIrq i s).wram = s.wram ∧ (raiseIrq i s).oam = s.oam ∧ (raiseIrq i s).hram = s.hram ∧
    (raiseIrq i s).ioShadow = s.ioShadow ∧ (raiseIrq i s).bootRom = s.bootRom ∧
    (raiseIrq i s).bootImage = s.bootImage ∧ (raiseIrq i s).vbk = s.vbk ∧ (raiseIrq i s).svbk = s.svbk ∧
    (raiseIrq i s).mapper = s.mapper ∧ (raiseIrq i s).cartRtc = s.cartRtc ∧ (raiseIrq i s).ppu = s.ppu ∧
    (raiseIrq i s).sound = s.sound ∧ (raiseIrq i s).serial = s.serial ∧ (raiseIrq i s).camera = s.camera ∧
    (raiseIrq i s).joypad = s.joypad ∧ (raiseIrq i s).fault = s.fault ∧ (raiseIrq i s).anomalies = s.anomalies ∧
    (raiseIrq i s).runStart = s.runStart ∧ (raiseIrq i s).refused = s.refused ∧ (raiseIrq i s).inputs = s.inputs ∧
    (raiseIrq i s).response = s.response ∧ (raiseIrq i s).cpuTape = s.cpuTape ∧ (raiseIrq i s).cpuCore = s.cpuCore ∧
    (raiseIrq i s).cpuReplies = s.cpuReplies ∧ (raiseIrq i s).draws = s.draws :=
  ⟨rfl, rfl, rfl, rfl, rfl, rfl, rfl, rfl, rfl, rfl, rfl, rfl, rfl, rfl, rfl, rfl, rfl, rfl, rfl, rfl, rfl, rfl, rfl, rfl, rfl, rfl, rfl, rfl, rfl, rfl, rfl, rfl, rfl, rfl, rfl, rfl, rfl, rfl, rfl, rfl, rfl, rfl, rfl, rfl, rfl, rfl, rfl, rfl, rfl, rfl, rfl, rfl⟩

/-- clearIrq writes ifReg only. -/
@[simp] theorem clearIrq_keeps (i : Nat) (s : State) :
    (clearIrq i s).params = s.params ∧ (clearIrq i s).ref = s.ref ∧ (clearIrq i s).last = s.last ∧
    (clearIrq i s).segTarget = s.segTarget ∧ (clearIrq i s).debt = s.debt ∧ (clearIrq i s).burstStart = s.burstStart ∧
    (clearIrq i s).horizon = s.horizon ∧ (clearIrq i s).phase = s.phase ∧ (clearIrq i s).epoch = s.epoch ∧
    (clearIrq i s).breakFlag = s.breakFlag ∧ (clearIrq i s).bootEnabled = s.bootEnabled ∧
    (clearIrq i s).family = s.family ∧ (clearIrq i s).dispatchSet = s.dispatchSet ∧
    (clearIrq i s).renderer = s.renderer ∧ (clearIrq i s).doubleSpeed = s.doubleSpeed ∧
    (clearIrq i s).key1Prepare = s.key1Prepare ∧ (clearIrq i s).ieReg = s.ieReg ∧ (clearIrq i s).ime = s.ime ∧
    (clearIrq i s).haltMode = s.haltMode ∧ (clearIrq i s).cpuPc = s.cpuPc ∧ (clearIrq i s).cpuSp = s.cpuSp ∧
    (clearIrq i s).timer = s.timer ∧ (clearIrq i s).odma = s.odma ∧ (clearIrq i s).hdma = s.hdma ∧
    (clearIrq i s).rom = s.rom ∧ (clearIrq i s).eram = s.eram ∧ (clearIrq i s).vram = s.vram ∧
    (clearIrq i s).wram = s.wram ∧ (clearIrq i s).oam = s.oam ∧ (clearIrq i s).hram = s.hram ∧
    (clearIrq i s).ioShadow = s.ioShadow ∧ (clearIrq i s).bootRom = s.bootRom ∧
    (clearIrq i s).bootImage = s.bootImage ∧ (clearIrq i s).vbk = s.vbk ∧ (clearIrq i s).svbk = s.svbk ∧
    (clearIrq i s).mapper = s.mapper ∧ (clearIrq i s).cartRtc = s.cartRtc ∧ (clearIrq i s).ppu = s.ppu ∧
    (clearIrq i s).sound = s.sound ∧ (clearIrq i s).serial = s.serial ∧ (clearIrq i s).camera = s.camera ∧
    (clearIrq i s).joypad = s.joypad ∧ (clearIrq i s).fault = s.fault ∧ (clearIrq i s).anomalies = s.anomalies ∧
    (clearIrq i s).runStart = s.runStart ∧ (clearIrq i s).refused = s.refused ∧ (clearIrq i s).inputs = s.inputs ∧
    (clearIrq i s).response = s.response ∧ (clearIrq i s).cpuTape = s.cpuTape ∧ (clearIrq i s).cpuCore = s.cpuCore ∧
    (clearIrq i s).cpuReplies = s.cpuReplies ∧ (clearIrq i s).draws = s.draws :=
  ⟨rfl, rfl, rfl, rfl, rfl, rfl, rfl, rfl, rfl, rfl, rfl, rfl, rfl, rfl, rfl, rfl, rfl, rfl, rfl, rfl, rfl, rfl, rfl, rfl, rfl, rfl, rfl, rfl, rfl, rfl, rfl, rfl, rfl, rfl, rfl, rfl, rfl, rfl, rfl, rfl, rfl, rfl, rfl, rfl, rfl, rfl, rfl, rfl, rfl, rfl, rfl, rfl⟩

/-- setLast writes last only. -/
@[simp] theorem setLast_keeps (sub : Subsystem) (r : Nat) (s : State) :
    (setLast sub r s).params = s.params ∧ (setLast sub r s).ref = s.ref ∧ (setLast sub r s).segTarget = s.segTarget ∧
    (setLast sub r s).debt = s.debt ∧ (setLast sub r s).burstStart = s.burstStart ∧
    (setLast sub r s).horizon = s.horizon ∧ (setLast sub r s).phase = s.phase ∧ (setLast sub r s).epoch = s.epoch ∧
    (setLast sub r s).breakFlag = s.breakFlag ∧ (setLast sub r s).bootEnabled = s.bootEnabled ∧
    (setLast sub r s).family = s.family ∧ (setLast sub r s).dispatchSet = s.dispatchSet ∧
    (setLast sub r s).renderer = s.renderer ∧ (setLast sub r s).doubleSpeed = s.doubleSpeed ∧
    (setLast sub r s).key1Prepare = s.key1Prepare ∧ (setLast sub r s).ieReg = s.ieReg ∧
    (setLast sub r s).ifReg = s.ifReg ∧ (setLast sub r s).ime = s.ime ∧ (setLast sub r s).haltMode = s.haltMode ∧
    (setLast sub r s).cpuPc = s.cpuPc ∧ (setLast sub r s).cpuSp = s.cpuSp ∧ (setLast sub r s).timer = s.timer ∧
    (setLast sub r s).odma = s.odma ∧ (setLast sub r s).hdma = s.hdma ∧ (setLast sub r s).rom = s.rom ∧
    (setLast sub r s).eram = s.eram ∧ (setLast sub r s).vram = s.vram ∧ (setLast sub r s).wram = s.wram ∧
    (setLast sub r s).oam = s.oam ∧ (setLast sub r s).hram = s.hram ∧ (setLast sub r s).ioShadow = s.ioShadow ∧
    (setLast sub r s).bootRom = s.bootRom ∧ (setLast sub r s).bootImage = s.bootImage ∧
    (setLast sub r s).vbk = s.vbk ∧ (setLast sub r s).svbk = s.svbk ∧ (setLast sub r s).mapper = s.mapper ∧
    (setLast sub r s).cartRtc = s.cartRtc ∧ (setLast sub r s).ppu = s.ppu ∧ (setLast sub r s).sound = s.sound ∧
    (setLast sub r s).serial = s.serial ∧ (setLast sub r s).camera = s.camera ∧ (setLast sub r s).joypad = s.joypad ∧
    (setLast sub r s).fault = s.fault ∧ (setLast sub r s).anomalies = s.anomalies ∧
    (setLast sub r s).runStart = s.runStart ∧ (setLast sub r s).refused = s.refused ∧
    (setLast sub r s).inputs = s.inputs ∧ (setLast sub r s).response = s.response ∧
    (setLast sub r s).cpuTape = s.cpuTape ∧ (setLast sub r s).cpuCore = s.cpuCore ∧
    (setLast sub r s).cpuReplies = s.cpuReplies ∧ (setLast sub r s).draws = s.draws :=
  ⟨rfl, rfl, rfl, rfl, rfl, rfl, rfl, rfl, rfl, rfl, rfl, rfl, rfl, rfl, rfl, rfl, rfl, rfl, rfl, rfl, rfl, rfl, rfl, rfl, rfl, rfl, rfl, rfl, rfl, rfl, rfl, rfl, rfl, rfl, rfl, rfl, rfl, rfl, rfl, rfl, rfl, rfl, rfl, rfl, rfl, rfl, rfl, rfl, rfl, rfl, rfl, rfl⟩

/-- selectDispatch writes dispatchSet only. -/
@[simp] theorem selectDispatch_keeps (s : State) :
    (selectDispatch s).params = s.params ∧ (selectDispatch s).ref = s.ref ∧ (selectDispatch s).last = s.last ∧
    (selectDispatch s).segTarget = s.segTarget ∧ (selectDispatch s).debt = s.debt ∧
    (selectDispatch s).burstStart = s.burstStart ∧ (selectDispatch s).horizon = s.horizon ∧
    (selectDispatch s).phase = s.phase ∧ (selectDispatch s).epoch = s.epoch ∧
    (selectDispatch s).breakFlag = s.breakFlag ∧ (selectDispatch s).bootEnabled = s.bootEnabled ∧
    (selectDispatch s).family = s.family ∧ (selectDispatch s).renderer = s.renderer ∧
    (selectDispatch s).doubleSpeed = s.doubleSpeed ∧ (selectDispatch s).key1Prepare = s.key1Prepare ∧
    (selectDispatch s).ieReg = s.ieReg ∧ (selectDispatch s).ifReg = s.ifReg ∧ (selectDispatch s).ime = s.ime ∧
    (selectDispatch s).haltMode = s.haltMode ∧ (selectDispatch s).cpuPc = s.cpuPc ∧
    (selectDispatch s).cpuSp = s.cpuSp ∧ (selectDispatch s).timer = s.timer ∧ (selectDispatch s).odma = s.odma ∧
    (selectDispatch s).hdma = s.hdma ∧ (selectDispatch s).rom = s.rom ∧ (selectDispatch s).eram = s.eram ∧
    (selectDispatch s).vram = s.vram ∧ (selectDispatch s).wram = s.wram ∧ (selectDispatch s).oam = s.oam ∧
    (selectDispatch s).hram = s.hram ∧ (selectDispatch s).ioShadow = s.ioShadow ∧
    (selectDispatch s).bootRom = s.bootRom ∧ (selectDispatch s).bootImage = s.bootImage ∧
    (selectDispatch s).vbk = s.vbk ∧ (selectDispatch s).svbk = s.svbk ∧ (selectDispatch s).mapper = s.mapper ∧
    (selectDispatch s).cartRtc = s.cartRtc ∧ (selectDispatch s).ppu = s.ppu ∧ (selectDispatch s).sound = s.sound ∧
    (selectDispatch s).serial = s.serial ∧ (selectDispatch s).camera = s.camera ∧
    (selectDispatch s).joypad = s.joypad ∧ (selectDispatch s).fault = s.fault ∧
    (selectDispatch s).anomalies = s.anomalies ∧ (selectDispatch s).runStart = s.runStart ∧
    (selectDispatch s).refused = s.refused ∧ (selectDispatch s).inputs = s.inputs ∧
    (selectDispatch s).response = s.response ∧ (selectDispatch s).cpuTape = s.cpuTape ∧
    (selectDispatch s).cpuCore = s.cpuCore ∧ (selectDispatch s).cpuReplies = s.cpuReplies ∧
    (selectDispatch s).draws = s.draws :=
  ⟨rfl, rfl, rfl, rfl, rfl, rfl, rfl, rfl, rfl, rfl, rfl, rfl, rfl, rfl, rfl, rfl, rfl, rfl, rfl, rfl, rfl, rfl, rfl, rfl, rfl, rfl, rfl, rfl, rfl, rfl, rfl, rfl, rfl, rfl, rfl, rfl, rfl, rfl, rfl, rfl, rfl, rfl, rfl, rfl, rfl, rfl, rfl, rfl, rfl, rfl, rfl, rfl⟩

/-- logAnomaly writes anomalies only. -/
@[simp] theorem logAnomaly_keeps (k : AnomalyKind) (a : Option (Addr × AccessDir)) (s : State) :
    (logAnomaly k a s).params = s.params ∧ (logAnomaly k a s).ref = s.ref ∧ (logAnomaly k a s).last = s.last ∧
    (logAnomaly k a s).segTarget = s.segTarget ∧ (logAnomaly k a s).debt = s.debt ∧
    (logAnomaly k a s).burstStart = s.burstStart ∧ (logAnomaly k a s).horizon = s.horizon ∧
    (logAnomaly k a s).phase = s.phase ∧ (logAnomaly k a s).epoch = s.epoch ∧
    (logAnomaly k a s).breakFlag = s.breakFlag ∧ (logAnomaly k a s).bootEnabled = s.bootEnabled ∧
    (logAnomaly k a s).family = s.family ∧ (logAnomaly k a s).dispatchSet = s.dispatchSet ∧
    (logAnomaly k a s).renderer = s.renderer ∧ (logAnomaly k a s).doubleSpeed = s.doubleSpeed ∧
    (logAnomaly k a s).key1Prepare = s.key1Prepare ∧ (logAnomaly k a s).ieReg = s.ieReg ∧
    (logAnomaly k a s).ifReg = s.ifReg ∧ (logAnomaly k a s).ime = s.ime ∧ (logAnomaly k a s).haltMode = s.haltMode ∧
    (logAnomaly k a s).cpuPc = s.cpuPc ∧ (logAnomaly k a s).cpuSp = s.cpuSp ∧ (logAnomaly k a s).timer = s.timer ∧
    (logAnomaly k a s).odma = s.odma ∧ (logAnomaly k a s).hdma = s.hdma ∧ (logAnomaly k a s).rom = s.rom ∧
    (logAnomaly k a s).eram = s.eram ∧ (logAnomaly k a s).vram = s.vram ∧ (logAnomaly k a s).wram = s.wram ∧
    (logAnomaly k a s).oam = s.oam ∧ (logAnomaly k a s).hram = s.hram ∧ (logAnomaly k a s).ioShadow = s.ioShadow ∧
    (logAnomaly k a s).bootRom = s.bootRom ∧ (logAnomaly k a s).bootImage = s.bootImage ∧
    (logAnomaly k a s).vbk = s.vbk ∧ (logAnomaly k a s).svbk = s.svbk ∧ (logAnomaly k a s).mapper = s.mapper ∧
    (logAnomaly k a s).cartRtc = s.cartRtc ∧ (logAnomaly k a s).ppu = s.ppu ∧ (logAnomaly k a s).sound = s.sound ∧
    (logAnomaly k a s).serial = s.serial ∧ (logAnomaly k a s).camera = s.camera ∧
    (logAnomaly k a s).joypad = s.joypad ∧ (logAnomaly k a s).fault = s.fault ∧
    (logAnomaly k a s).runStart = s.runStart ∧ (logAnomaly k a s).refused = s.refused ∧
    (logAnomaly k a s).inputs = s.inputs ∧ (logAnomaly k a s).response = s.response ∧
    (logAnomaly k a s).cpuTape = s.cpuTape ∧ (logAnomaly k a s).cpuCore = s.cpuCore ∧
    (logAnomaly k a s).cpuReplies = s.cpuReplies ∧ (logAnomaly k a s).draws = s.draws :=
  ⟨rfl, rfl, rfl, rfl, rfl, rfl, rfl, rfl, rfl, rfl, rfl, rfl, rfl, rfl, rfl, rfl, rfl, rfl, rfl, rfl, rfl, rfl, rfl, rfl, rfl, rfl, rfl, rfl, rfl, rfl, rfl, rfl, rfl, rfl, rfl, rfl, rfl, rfl, rfl, rfl, rfl, rfl, rfl, rfl, rfl, rfl, rfl, rfl, rfl, rfl, rfl, rfl⟩

/-- setPc writes cpuPc only. -/
@[simp] theorem setPc_keeps (a : Addr) (s : State) :
    (setPc a s).params = s.params ∧ (setPc a s).ref = s.ref ∧ (setPc a s).last = s.last ∧
    (setPc a s).segTarget = s.segTarget ∧ (setPc a s).debt = s.debt ∧ (setPc a s).burstStart = s.burstStart ∧
    (setPc a s).horizon = s.horizon ∧ (setPc a s).phase = s.phase ∧ (setPc a s).epoch = s.epoch ∧
    (setPc a s).breakFlag = s.breakFlag ∧ (setPc a s).bootEnabled = s.bootEnabled ∧ (setPc a s).family = s.family ∧
    (setPc a s).dispatchSet = s.dispatchSet ∧ (setPc a s).renderer = s.renderer ∧
    (setPc a s).doubleSpeed = s.doubleSpeed ∧ (setPc a s).key1Prepare = s.key1Prepare ∧ (setPc a s).ieReg = s.ieReg ∧
    (setPc a s).ifReg = s.ifReg ∧ (setPc a s).ime = s.ime ∧ (setPc a s).haltMode = s.haltMode ∧
    (setPc a s).cpuSp = s.cpuSp ∧ (setPc a s).timer = s.timer ∧ (setPc a s).odma = s.odma ∧
    (setPc a s).hdma = s.hdma ∧ (setPc a s).rom = s.rom ∧ (setPc a s).eram = s.eram ∧ (setPc a s).vram = s.vram ∧
    (setPc a s).wram = s.wram ∧ (setPc a s).oam = s.oam ∧ (setPc a s).hram = s.hram ∧
    (setPc a s).ioShadow = s.ioShadow ∧ (setPc a s).bootRom = s.bootRom ∧ (setPc a s).bootImage = s.bootImage ∧
    (setPc a s).vbk = s.vbk ∧ (setPc a s).svbk = s.svbk ∧ (setPc a s).mapper = s.mapper ∧
    (setPc a s).cartRtc = s.cartRtc ∧ (setPc a s).ppu = s.ppu ∧ (setPc a s).sound = s.sound ∧
    (setPc a s).serial = s.serial ∧ (setPc a s).camera = s.camera ∧ (setPc a s).joypad = s.joypad ∧
    (setPc a s).fault = s.fault ∧ (setPc a s).anomalies = s.anomalies ∧ (setPc a s).runStart = s.runStart ∧
    (setPc a s).refused = s.refused ∧ (setPc a s).inputs = s.inputs ∧ (setPc a s).response = s.response ∧
    (setPc a s).cpuTape = s.cpuTape ∧ (setPc a s).cpuCore = s.cpuCore ∧ (setPc a s).cpuReplies = s.cpuReplies ∧
    (setPc a s).draws = s.draws :=
  ⟨rfl, rfl, rfl, rfl, rfl, rfl, rfl, rfl, rfl, rfl, rfl, rfl, rfl, rfl, rfl, rfl, rfl, rfl, rfl, rfl, rfl, rfl, rfl, rfl, rfl, rfl, rfl, rfl, rfl, rfl, rfl, rfl, rfl, rfl, rfl, rfl, rfl, rfl, rfl, rfl, rfl, rfl, rfl, rfl, rfl, rfl, rfl, rfl, rfl, rfl, rfl, rfl⟩

/-- setSp writes cpuSp only. -/
@[simp] theorem setSp_keeps (a : Addr) (s : State) :
    (setSp a s).params = s.params ∧ (setSp a s).ref = s.ref ∧ (setSp a s).last = s.last ∧
    (setSp a s).segTarget = s.segTarget ∧ (setSp a s).debt = s.debt ∧ (setSp a s).burstStart = s.burstStart ∧
    (setSp a s).horizon = s.horizon ∧ (setSp a s).phase = s.phase ∧ (setSp a s).epoch = s.epoch ∧
    (setSp a s).breakFlag = s.breakFlag ∧ (setSp a s).bootEnabled = s.bootEnabled ∧ (setSp a s).family = s.family ∧
    (setSp a s).dispatchSet = s.dispatchSet ∧ (setSp a s).renderer = s.renderer ∧
    (setSp a s).doubleSpeed = s.doubleSpeed ∧ (setSp a s).key1Prepare = s.key1Prepare ∧ (setSp a s).ieReg = s.ieReg ∧
    (setSp a s).ifReg = s.ifReg ∧ (setSp a s).ime = s.ime ∧ (setSp a s).haltMode = s.haltMode ∧
    (setSp a s).cpuPc = s.cpuPc ∧ (setSp a s).timer = s.timer ∧ (setSp a s).odma = s.odma ∧
    (setSp a s).hdma = s.hdma ∧ (setSp a s).rom = s.rom ∧ (setSp a s).eram = s.eram ∧ (setSp a s).vram = s.vram ∧
    (setSp a s).wram = s.wram ∧ (setSp a s).oam = s.oam ∧ (setSp a s).hram = s.hram ∧
    (setSp a s).ioShadow = s.ioShadow ∧ (setSp a s).bootRom = s.bootRom ∧ (setSp a s).bootImage = s.bootImage ∧
    (setSp a s).vbk = s.vbk ∧ (setSp a s).svbk = s.svbk ∧ (setSp a s).mapper = s.mapper ∧
    (setSp a s).cartRtc = s.cartRtc ∧ (setSp a s).ppu = s.ppu ∧ (setSp a s).sound = s.sound ∧
    (setSp a s).serial = s.serial ∧ (setSp a s).camera = s.camera ∧ (setSp a s).joypad = s.joypad ∧
    (setSp a s).fault = s.fault ∧ (setSp a s).anomalies = s.anomalies ∧ (setSp a s).runStart = s.runStart ∧
    (setSp a s).refused = s.refused ∧ (setSp a s).inputs = s.inputs ∧ (setSp a s).response = s.response ∧
    (setSp a s).cpuTape = s.cpuTape ∧ (setSp a s).cpuCore = s.cpuCore ∧ (setSp a s).cpuReplies = s.cpuReplies ∧
    (setSp a s).draws = s.draws :=
  ⟨rfl, rfl, rfl, rfl, rfl, rfl, rfl, rfl, rfl, rfl, rfl, rfl, rfl, rfl, rfl, rfl, rfl, rfl, rfl, rfl, rfl, rfl, rfl, rfl, rfl, rfl, rfl, rfl, rfl, rfl, rfl, rfl, rfl, rfl, rfl, rfl, rfl, rfl, rfl, rfl, rfl, rfl, rfl, rfl, rfl, rfl, rfl, rfl, rfl, rfl, rfl, rfl⟩

/-- setIme writes ime only. -/
@[simp] theorem setIme_keeps (b : Bool) (s : State) :
    (setIme b s).params = s.params ∧ (setIme b s).ref = s.ref ∧ (setIme b s).last = s.last ∧
    (setIme b s).segTarget = s.segTarget ∧ (setIme b s).debt = s.debt ∧ (setIme b s).burstStart = s.burstStart ∧
    (setIme b s).horizon = s.horizon ∧ (setIme b s).phase = s.phase ∧ (setIme b s).epoch = s.epoch ∧
    (setIme b s).breakFlag = s.breakFlag ∧ (setIme b s).bootEnabled = s.bootEnabled ∧ (setIme b s).family = s.family ∧
    (setIme b s).dispatchSet = s.dispatchSet ∧ (setIme b s).renderer = s.renderer ∧
    (setIme b s).doubleSpeed = s.doubleSpeed ∧ (setIme b s).key1Prepare = s.key1Prepare ∧
    (setIme b s).ieReg = s.ieReg ∧ (setIme b s).ifReg = s.ifReg ∧ (setIme b s).haltMode = s.haltMode ∧
    (setIme b s).cpuPc = s.cpuPc ∧ (setIme b s).cpuSp = s.cpuSp ∧ (setIme b s).timer = s.timer ∧
    (setIme b s).odma = s.odma ∧ (setIme b s).hdma = s.hdma ∧ (setIme b s).rom = s.rom ∧ (setIme b s).eram = s.eram ∧
    (setIme b s).vram = s.vram ∧ (setIme b s).wram = s.wram ∧ (setIme b s).oam = s.oam ∧ (setIme b s).hram = s.hram ∧
    (setIme b s).ioShadow = s.ioShadow ∧ (setIme b s).bootRom = s.bootRom ∧ (setIme b s).bootImage = s.bootImage ∧
    (setIme b s).vbk = s.vbk ∧ (setIme b s).svbk = s.svbk ∧ (setIme b s).mapper = s.mapper ∧
    (setIme b s).cartRtc = s.cartRtc ∧ (setIme b s).ppu = s.ppu ∧ (setIme b s).sound = s.sound ∧
    (setIme b s).serial = s.serial ∧ (setIme b s).camera = s.camera ∧ (setIme b s).joypad = s.joypad ∧
    (setIme b s).fault = s.fault ∧ (setIme b s).anomalies = s.anomalies ∧ (setIme b s).runStart = s.runStart ∧
    (setIme b s).refused = s.refused ∧ (setIme b s).inputs = s.inputs ∧ (setIme b s).response = s.response ∧
    (setIme b s).cpuTape = s.cpuTape ∧ (setIme b s).cpuCore = s.cpuCore ∧ (setIme b s).cpuReplies = s.cpuReplies ∧
    (setIme b s).draws = s.draws :=
  ⟨rfl, rfl, rfl, rfl, rfl, rfl, rfl, rfl, rfl, rfl, rfl, rfl, rfl, rfl, rfl, rfl, rfl, rfl, rfl, rfl, rfl, rfl, rfl, rfl, rfl, rfl, rfl, rfl, rfl, rfl, rfl, rfl, rfl, rfl, rfl, rfl, rfl, rfl, rfl, rfl, rfl, rfl, rfl, rfl, rfl, rfl, rfl, rfl, rfl, rfl, rfl, rfl⟩

/-- writeIf writes ifReg only. -/
@[simp] theorem writeIf_keeps (v : Byte) (s : State) :
    (writeIf v s).params = s.params ∧ (writeIf v s).ref = s.ref ∧ (writeIf v s).last = s.last ∧
    (writeIf v s).segTarget = s.segTarget ∧ (writeIf v s).debt = s.debt ∧ (writeIf v s).burstStart = s.burstStart ∧
    (writeIf v s).horizon = s.horizon ∧ (writeIf v s).phase = s.phase ∧ (writeIf v s).epoch = s.epoch ∧
    (writeIf v s).breakFlag = s.breakFlag ∧ (writeIf v s).bootEnabled = s.bootEnabled ∧
    (writeIf v s).family = s.family ∧ (writeIf v s).dispatchSet = s.dispatchSet ∧
    (writeIf v s).renderer = s.renderer ∧ (writeIf v s).doubleSpeed = s.doubleSpeed ∧
    (writeIf v s).key1Prepare = s.key1Prepare ∧ (writeIf v s).ieReg = s.ieReg ∧ (writeIf v s).ime = s.ime ∧
    (writeIf v s).haltMode = s.haltMode ∧ (writeIf v s).cpuPc = s.cpuPc ∧ (writeIf v s).cpuSp = s.cpuSp ∧
    (writeIf v s).timer = s.timer ∧ (writeIf v s).odma = s.odma ∧ (writeIf v s).hdma = s.hdma ∧
    (writeIf v s).rom = s.rom ∧ (writeIf v s).eram = s.eram ∧ (writeIf v s).vram = s.vram ∧
    (writeIf v s).wram = s.wram ∧ (writeIf v s).oam = s.oam ∧ (writeIf v s).hram = s.hram ∧
    (writeIf v s).ioShadow = s.ioShadow ∧ (writeIf v s).bootRom = s.bootRom ∧ (writeIf v s).bootImage = s.bootImage ∧
    (writeIf v s).vbk = s.vbk ∧ (writeIf v s).svbk = s.svbk ∧ (writeIf v s).mapper = s.mapper ∧
    (writeIf v s).cartRtc = s.cartRtc ∧ (writeIf v s).ppu = s.ppu ∧ (writeIf v s).sound = s.sound ∧
    (writeIf v s).serial = s.serial ∧ (writeIf v s).camera = s.camera ∧ (writeIf v s).joypad = s.joypad ∧
    (writeIf v s).fault = s.fault ∧ (writeIf v s).anomalies = s.anomalies ∧ (writeIf v s).runStart = s.runStart ∧
    (writeIf v s).refused = s.refused ∧ (writeIf v s).inputs = s.inputs ∧ (writeIf v s).response = s.response ∧
    (writeIf v s).cpuTape = s.cpuTape ∧ (writeIf v s).cpuCore = s.cpuCore ∧ (writeIf v s).cpuReplies = s.cpuReplies ∧
    (writeIf v s).draws = s.draws :=
  ⟨rfl, rfl, rfl, rfl, rfl, rfl, rfl, rfl, rfl, rfl, rfl, rfl, rfl, rfl, rfl, rfl, rfl, rfl, rfl, rfl, rfl, rfl, rfl, rfl, rfl, rfl, rfl, rfl, rfl, rfl, rfl, rfl, rfl, rfl, rfl, rfl, rfl, rfl, rfl, rfl, rfl, rfl, rfl, rfl, rfl, rfl, rfl, rfl, rfl, rfl, rfl, rfl⟩

/-- writeDmaReg writes odma only. -/
@[simp] theorem writeDmaReg_keeps (v : Byte) (s : State) :
    (writeDmaReg v s).params = s.params ∧ (writeDmaReg v s).ref = s.ref ∧ (writeDmaReg v s).last = s.last ∧
    (writeDmaReg v s).segTarget = s.segTarget ∧ (writeDmaReg v s).debt = s.debt ∧
    (writeDmaReg v s).burstStart = s.burstStart ∧ (writeDmaReg v s).horizon = s.horizon ∧
    (writeDmaReg v s).phase = s.phase ∧ (writeDmaReg v s).epoch = s.epoch ∧
    (writeDmaReg v s).breakFlag = s.breakFlag ∧ (writeDmaReg v s).bootEnabled = s.bootEnabled ∧
    (writeDmaReg v s).family = s.family ∧ (writeDmaReg v s).dispatchSet = s.dispatchSet ∧
    (writeDmaReg v s).renderer = s.renderer ∧ (writeDmaReg v s).doubleSpeed = s.doubleSpeed ∧
    (writeDmaReg v s).key1Prepare = s.key1Prepare ∧ (writeDmaReg v s).ieReg = s.ieReg ∧
    (writeDmaReg v s).ifReg = s.ifReg ∧ (writeDmaReg v s).ime = s.ime ∧ (writeDmaReg v s).haltMode = s.haltMode ∧
    (writeDmaReg v s).cpuPc = s.cpuPc ∧ (writeDmaReg v s).cpuSp = s.cpuSp ∧ (writeDmaReg v s).timer = s.timer ∧
    (writeDmaReg v s).hdma = s.hdma ∧ (writeDmaReg v s).rom = s.rom ∧ (writeDmaReg v s).eram = s.eram ∧
    (writeDmaReg v s).vram = s.vram ∧ (writeDmaReg v s).wram = s.wram ∧ (writeDmaReg v s).oam = s.oam ∧
    (writeDmaReg v s).hram = s.hram ∧ (writeDmaReg v s).ioShadow = s.ioShadow ∧
    (writeDmaReg v s).bootRom = s.bootRom ∧ (writeDmaReg v s).bootImage = s.bootImage ∧
    (writeDmaReg v s).vbk = s.vbk ∧ (writeDmaReg v s).svbk = s.svbk ∧ (writeDmaReg v s).mapper = s.mapper ∧
    (writeDmaReg v s).cartRtc = s.cartRtc ∧ (writeDmaReg v s).ppu = s.ppu ∧ (writeDmaReg v s).sound = s.sound ∧
    (writeDmaReg v s).serial = s.serial ∧ (writeDmaReg v s).camera = s.camera ∧ (writeDmaReg v s).joypad = s.joypad ∧
    (writeDmaReg v s).fault = s.fault ∧ (writeDmaReg v s).anomalies = s.anomalies ∧
    (writeDmaReg v s).runStart = s.runStart ∧ (writeDmaReg v s).refused = s.refused ∧
    (writeDmaReg v s).inputs = s.inputs ∧ (writeDmaReg v s).response = s.response ∧
    (writeDmaReg v s).cpuTape = s.cpuTape ∧ (writeDmaReg v s).cpuCore = s.cpuCore ∧
    (writeDmaReg v s).cpuReplies = s.cpuReplies ∧ (writeDmaReg v s).draws = s.draws :=
  ⟨rfl, rfl, rfl, rfl, rfl, rfl, rfl, rfl, rfl, rfl, rfl, rfl, rfl, rfl, rfl, rfl, rfl, rfl, rfl, rfl, rfl, rfl, rfl, rfl, rfl, rfl, rfl, rfl, rfl, rfl, rfl, rfl, rfl, rfl, rfl, rfl, rfl, rfl, rfl, rfl, rfl, rfl, rfl, rfl, rfl, rfl, rfl, rfl, rfl, rfl, rfl, rfl⟩

/-- startSegment writes phase, segTarget only. -/
@[simp] theorem startSegment_keeps (n : Nat) (s : State) :
    (startSegment n s).params = s.params ∧ (startSegment n s).ref = s.ref ∧ (startSegment n s).last = s.last ∧
    (startSegment n s).debt = s.debt ∧ (startSegment n s).burstStart = s.burstStart ∧
    (startSegment n s).horizon = s.horizon ∧ (startSegment n s).epoch = s.epoch ∧
    (startSegment n s).breakFlag = s.breakFlag ∧ (startSegment n s).bootEnabled = s.bootEnabled ∧
    (startSegment n s).family = s.family ∧ (startSegment n s).dispatchSet = s.dispatchSet ∧
    (startSegment n s).renderer = s.renderer ∧ (startSegment n s).doubleSpeed = s.doubleSpeed ∧
    (startSegment n s).key1Prepare = s.key1Prepare ∧ (startSegment n s).ieReg = s.ieReg ∧
    (startSegment n s).ifReg = s.ifReg ∧ (startSegment n s).ime = s.ime ∧ (startSegment n s).haltMode = s.haltMode ∧
    (startSegment n s).cpuPc = s.cpuPc ∧ (startSegment n s).cpuSp = s.cpuSp ∧ (startSegment n s).timer = s.timer ∧
    (startSegment n s).odma = s.odma ∧ (startSegment n s).hdma = s.hdma ∧ (startSegment n s).rom = s.rom ∧
    (startSegment n s).eram = s.eram ∧ (startSegment n s).vram = s.vram ∧ (startSegment n s).wram = s.wram ∧
    (startSegment n s).oam = s.oam ∧ (startSegment n s).hram = s.hram ∧ (startSegment n s).ioShadow = s.ioShadow ∧
    (startSegment n s).bootRom = s.bootRom ∧ (startSegment n s).bootImage = s.bootImage ∧
    (startSegment n s).vbk = s.vbk ∧ (startSegment n s).svbk = s.svbk ∧ (startSegment n s).mapper = s.mapper ∧
    (startSegment n s).cartRtc = s.cartRtc ∧ (startSegment n s).ppu = s.ppu ∧ (startSegment n s).sound = s.sound ∧
    (startSegment n s).serial = s.serial ∧ (startSegment n s).camera = s.camera ∧
    (startSegment n s).joypad = s.joypad ∧ (startSegment n s).fault = s.fault ∧
    (startSegment n s).anomalies = s.anomalies ∧ (startSegment n s).runStart = s.runStart ∧
    (startSegment n s).refused = s.refused ∧ (startSegment n s).inputs = s.inputs ∧
    (startSegment n s).response = s.response ∧ (startSegment n s).cpuTape = s.cpuTape ∧
    (startSegment n s).cpuCore = s.cpuCore ∧ (startSegment n s).cpuReplies = s.cpuReplies ∧
    (startSegment n s).draws = s.draws :=
  ⟨rfl, rfl, rfl, rfl, rfl, rfl, rfl, rfl, rfl, rfl, rfl, rfl, rfl, rfl, rfl, rfl, rfl, rfl, rfl, rfl, rfl, rfl, rfl, rfl, rfl, rfl, rfl, rfl, rfl, rfl, rfl, rfl, rfl, rfl, rfl, rfl, rfl, rfl, rfl, rfl, rfl, rfl, rfl, rfl, rfl, rfl, rfl, rfl, rfl, rfl, rfl⟩

/-- startBurst writes horizon, burstStart, breakFlag only. -/
@[simp] theorem startBurst_keeps (s : State) :
    (startBurst s).params = s.params ∧ (startBurst s).ref = s.ref ∧ (startBurst s).last = s.last ∧
    (startBurst s).segTarget = s.segTarget ∧ (startBurst s).debt = s.debt ∧ (startBurst s).phase = s.phase ∧
    (startBurst s).epoch = s.epoch ∧ (startBurst s).bootEnabled = s.bootEnabled ∧ (startBurst s).family = s.family ∧
    (startBurst s).dispatchSet = s.dispatchSet ∧ (startBurst s).renderer = s.renderer ∧
    (startBurst s).doubleSpeed = s.doubleSpeed ∧ (startBurst s).key1Prepare = s.key1Prepare ∧
    (startBurst s).ieReg = s.ieReg ∧ (startBurst s).ifReg = s.ifReg ∧ (startBurst s).ime = s.ime ∧
    (startBurst s).haltMode = s.haltMode ∧ (startBurst s).cpuPc = s.cpuPc ∧ (startBurst s).cpuSp = s.cpuSp ∧
    (startBurst s).timer = s.timer ∧ (startBurst s).odma = s.odma ∧ (startBurst s).hdma = s.hdma ∧
    (startBurst s).rom = s.rom ∧ (startBurst s).eram = s.eram ∧ (startBurst s).vram = s.vram ∧
    (startBurst s).wram = s.wram ∧ (startBurst s).oam = s.oam ∧ (startBurst s).hram = s.hram ∧
    (startBurst s).ioShadow = s.ioShadow ∧ (startBurst s).bootRom = s.bootRom ∧
    (startBurst s).bootImage = s.bootImage ∧ (startBurst s).vbk = s.vbk ∧ (startBurst s).svbk = s.svbk ∧
    (startBurst s).mapper = s.mapper ∧ (startBurst s).cartRtc = s.cartRtc ∧ (startBurst s).ppu = s.ppu ∧
    (startBurst s).sound = s.sound ∧ (startBurst s).serial = s.serial ∧ (startBurst s).camera = s.camera ∧
    (startBurst s).joypad = s.joypad ∧ (startBurst s).fault = s.fault ∧ (startBurst s).anomalies = s.anomalies ∧
    (startBurst s).runStart = s.runStart ∧ (startBurst s).refused = s.refused ∧ (startBurst s).inputs = s.inputs ∧
    (startBurst s).response = s.response ∧ (startBurst s).cpuTape = s.cpuTape ∧ (startBurst s).cpuCore = s.cpuCore ∧
    (startBurst s).cpuReplies = s.cpuReplies ∧ (startBurst s).draws = s.draws :=
  ⟨rfl, rfl, rfl, rfl, rfl, rfl, rfl, rfl, rfl, rfl, rfl, rfl, rfl, rfl, rfl, rfl, rfl, rfl, rfl, rfl, rfl, rfl, rfl, rfl, rfl, rfl, rfl, rfl, rfl, rfl, rfl, rfl, rfl, rfl, rfl, rfl, rfl, rfl, rfl, rfl, rfl, rfl, rfl, rfl, rfl, rfl, rfl, rfl, rfl, rfl⟩

/-- rebaseClock writes debt, epoch, ref, last, burstStart only. -/
@[simp] theorem rebaseClock_keeps (s : State) :
    (rebaseClock s).params = s.params ∧ (rebaseClock s).segTarget = s.segTarget ∧
    (rebaseClock s).horizon = s.horizon ∧ (rebaseClock s).phase = s.phase ∧ (rebaseClock s).breakFlag = s.breakFlag ∧
    (rebaseClock s).bootEnabled = s.bootEnabled ∧ (rebaseClock s).family = s.family ∧
    (rebaseClock s).dispatchSet = s.dispatchSet ∧ (rebaseClock s).renderer = s.renderer ∧
    (rebaseClock s).doubleSpeed = s.doubleSpeed ∧ (rebaseClock s).key1Prepare = s.key1Prepare ∧
    (rebaseClock s).ieReg = s.ieReg ∧ (rebaseClock s).ifReg = s.ifReg ∧ (rebaseClock s).ime = s.ime ∧
    (rebaseClock s).haltMode = s.haltMode ∧ (rebaseClock s).cpuPc = s.cpuPc ∧ (rebaseClock s).cpuSp = s.cpuSp ∧
    (rebaseClock s).timer = s.timer ∧ (rebaseClock s).odma = s.odma ∧ (rebaseClock s).hdma = s.hdma ∧
    (rebaseClock s).rom = s.rom ∧ (rebaseClock s).eram = s.eram ∧ (rebaseClock s).vram = s.vram ∧
    (rebaseClock s).wram = s.wram ∧ (rebaseClock s).oam = s.oam ∧ (rebaseClock s).hram = s.hram ∧
    (rebaseClock s).ioShadow = s.ioShadow ∧ (rebaseClock s).bootRom = s.bootRom ∧
    (rebaseClock s).bootImage = s.bootImage ∧ (rebaseClock s).vbk = s.vbk ∧ (rebaseClock s).svbk = s.svbk ∧
    (rebaseClock s).mapper = s.mapper ∧ (rebaseClock s).cartRtc = s.cartRtc ∧ (rebaseClock s).ppu = s.ppu ∧
    (rebaseClock s).sound = s.sound ∧ (rebaseClock s).serial = s.serial ∧ (rebaseClock s).camera = s.camera ∧
    (rebaseClock s).joypad = s.joypad ∧ (rebaseClock s).fault = s.fault ∧ (rebaseClock s).anomalies = s.anomalies ∧
    (rebaseClock s).runStart = s.runStart ∧ (rebaseClock s).refused = s.refused ∧ (rebaseClock s).inputs = s.inputs ∧
    (rebaseClock s).response = s.response ∧ (rebaseClock s).cpuTape = s.cpuTape ∧
    (rebaseClock s).cpuCore = s.cpuCore ∧ (rebaseClock s).cpuReplies = s.cpuReplies ∧ (rebaseClock s).draws = s.draws :=
  ⟨rfl, rfl, rfl, rfl, rfl, rfl, rfl, rfl, rfl, rfl, rfl, rfl, rfl, rfl, rfl, rfl, rfl, rfl, rfl, rfl, rfl, rfl, rfl, rfl, rfl, rfl, rfl, rfl, rfl, rfl, rfl, rfl, rfl, rfl, rfl, rfl, rfl, rfl, rfl, rfl, rfl, rfl, rfl, rfl, rfl, rfl, rfl, rfl⟩

/-- collabView writes anomalies, runStart, refused, inputs, response, cpuTape, cpuCore, cpuReplies only. -/
@[simp] theorem collabView_keeps (s : State) :
    (collabView s).params = s.params ∧ (collabView s).ref = s.ref ∧ (collabView s).last = s.last ∧
    (collabView s).segTarget = s.segTarget ∧ (collabView s).debt = s.debt ∧ (collabView s).burstStart = s.burstStart ∧
    (collabView s).horizon = s.horizon ∧ (collabView s).phase = s.phase ∧ (collabView s).epoch = s.epoch ∧
    (collabView s).breakFlag = s.breakFlag ∧ (collabView s).bootEnabled = s.bootEnabled ∧
    (collabView s).family = s.family ∧ (collabView s).dispatchSet = s.dispatchSet ∧
    (collabView s).renderer = s.renderer ∧ (collabView s).doubleSpeed = s.doubleSpeed ∧
    (collabView s).key1Prepare = s.key1Prepare ∧ (collabView s).ieReg = s.ieReg ∧ (collabView s).ifReg = s.ifReg ∧
    (collabView s).ime = s.ime ∧ (collabView s).haltMode = s.haltMode ∧ (collabView s).cpuPc = s.cpuPc ∧
    (collabView s).cpuSp = s.cpuSp ∧ (collabView s).timer = s.timer ∧ (collabView s).odma = s.odma ∧
    (collabView s).hdma = s.hdma ∧ (collabView s).rom = s.rom ∧ (collabView s).eram = s.eram ∧
    (collabView s).vram = s.vram ∧ (collabView s).wram = s.wram ∧ (collabView s).oam = s.oam ∧
    (collabView s).hram = s.hram ∧ (collabView s).ioShadow = s.ioShadow ∧ (collabView s).bootRom = s.bootRom ∧
    (collabView s).bootImage = s.bootImage ∧ (collabView s).vbk = s.vbk ∧ (collabView s).svbk = s.svbk ∧
    (collabView s).mapper = s.mapper ∧ (collabView s).cartRtc = s.cartRtc ∧ (collabView s).ppu = s.ppu ∧
    (collabView s).sound = s.sound ∧ (collabView s).serial = s.serial ∧ (collabView s).camera = s.camera ∧
    (collabView s).joypad = s.joypad ∧ (collabView s).fault = s.fault ∧ (collabView s).draws = s.draws :=
  ⟨rfl, rfl, rfl, rfl, rfl, rfl, rfl, rfl, rfl, rfl, rfl, rfl, rfl, rfl, rfl, rfl, rfl, rfl, rfl, rfl, rfl, rfl, rfl, rfl, rfl, rfl, rfl, rfl, rfl, rfl, rfl, rfl, rfl, rfl, rfl, rfl, rfl, rfl, rfl, rfl, rfl, rfl, rfl, rfl, rfl⟩

/-- drawByte advances the draw counter only. -/
@[simp] theorem drawByte_keeps (s : State) :
    (drawByte s).2.params = s.params ∧ (drawByte s).2.ref = s.ref ∧ (drawByte s).2.last = s.last ∧
    (drawByte s).2.segTarget = s.segTarget ∧ (drawByte s).2.debt = s.debt ∧ (drawByte s).2.burstStart = s.burstStart ∧
    (drawByte s).2.horizon = s.horizon ∧ (drawByte s).2.phase = s.phase ∧ (drawByte s).2.epoch = s.epoch ∧
    (drawByte s).2.breakFlag = s.breakFlag ∧ (drawByte s).2.bootEnabled = s.bootEnabled ∧
    (drawByte s).2.family = s.family ∧ (drawByte s).2.dispatchSet = s.dispatchSet ∧
    (drawByte s).2.renderer = s.renderer ∧ (drawByte s).2.doubleSpeed = s.doubleSpeed ∧
    (drawByte s).2.key1Prepare = s.key1Prepare ∧ (drawByte s).2.ieReg = s.ieReg ∧ (drawByte s).2.ifReg = s.ifReg ∧
    (drawByte s).2.ime = s.ime ∧ (drawByte s).2.haltMode = s.haltMode ∧ (drawByte s).2.cpuPc = s.cpuPc ∧
    (drawByte s).2.cpuSp = s.cpuSp ∧ (drawByte s).2.timer = s.timer ∧ (drawByte s).2.odma = s.odma ∧
    (drawByte s).2.hdma = s.hdma ∧ (drawByte s).2.rom = s.rom ∧ (drawByte s).2.eram = s.eram ∧
    (drawByte s).2.vram = s.vram ∧ (drawByte s).2.wram = s.wram ∧ (drawByte s).2.oam = s.oam ∧
    (drawByte s).2.hram = s.hram ∧ (drawByte s).2.ioShadow = s.ioShadow ∧ (drawByte s).2.bootRom = s.bootRom ∧
    (drawByte s).2.bootImage = s.bootImage ∧ (drawByte s).2.vbk = s.vbk ∧ (drawByte s).2.svbk = s.svbk ∧
    (drawByte s).2.mapper = s.mapper ∧ (drawByte s).2.cartRtc = s.cartRtc ∧ (drawByte s).2.ppu = s.ppu ∧
    (drawByte s).2.sound = s.sound ∧ (drawByte s).2.serial = s.serial ∧ (drawByte s).2.camera = s.camera ∧
    (drawByte s).2.joypad = s.joypad ∧ (drawByte s).2.fault = s.fault ∧ (drawByte s).2.anomalies = s.anomalies ∧
    (drawByte s).2.runStart = s.runStart ∧ (drawByte s).2.refused = s.refused ∧ (drawByte s).2.inputs = s.inputs ∧
    (drawByte s).2.response = s.response ∧ (drawByte s).2.cpuTape = s.cpuTape ∧ (drawByte s).2.cpuCore = s.cpuCore ∧
    (drawByte s).2.cpuReplies = s.cpuReplies :=
  ⟨rfl, rfl, rfl, rfl, rfl, rfl, rfl, rfl, rfl, rfl, rfl, rfl, rfl, rfl, rfl, rfl, rfl, rfl, rfl, rfl, rfl, rfl, rfl, rfl, rfl, rfl, rfl, rfl, rfl, rfl, rfl, rfl, rfl, rfl, rfl, rfl, rfl, rfl, rfl, rfl, rfl, rfl, rfl, rfl, rfl, rfl, rfl, rfl, rfl, rfl, rfl, rfl⟩

/-- drawAddr advances the draw counter only. -/
@[simp] theorem drawAddr_keeps (s : State) :
    (drawAddr s).2.params = s.params ∧ (drawAddr s).2.ref = s.ref ∧ (drawAddr s).2.last = s.last ∧
    (drawAddr s).2.segTarget = s.segTarget ∧ (drawAddr s).2.debt = s.debt ∧ (drawAddr s).2.burstStart = s.burstStart ∧
    (drawAddr s).2.horizon = s.horizon ∧ (drawAddr s).2.phase = s.phase ∧ (drawAddr s).2.epoch = s.epoch ∧
    (drawAddr s).2.breakFlag = s.breakFlag ∧ (drawAddr s).2.bootEnabled = s.bootEnabled ∧
    (drawAddr s).2.family = s.family ∧ (drawAddr s).2.dispatchSet = s.dispatchSet ∧
    (drawAddr s).2.renderer = s.renderer ∧ (drawAddr s).2.doubleSpeed = s.doubleSpeed ∧
    (drawAddr s).2.key1Prepare = s.key1Prepare ∧ (drawAddr s).2.ieReg = s.ieReg ∧ (drawAddr s).2.ifReg = s.ifReg ∧
    (drawAddr s).2.ime = s.ime ∧ (drawAddr s).2.haltMode = s.haltMode ∧ (drawAddr s).2.cpuPc = s.cpuPc ∧
    (drawAddr s).2.cpuSp = s.cpuSp ∧ (drawAddr s).2.timer = s.timer ∧ (drawAddr s).2.odma = s.odma ∧
    (drawAddr s).2.hdma = s.hdma ∧ (drawAddr s).2.rom = s.rom ∧ (drawAddr s).2.eram = s.eram ∧
    (drawAddr s).2.vram = s.vram ∧ (drawAddr s).2.wram = s.wram ∧ (drawAddr s).2.oam = s.oam ∧
    (drawAddr s).2.hram = s.hram ∧ (drawAddr s).2.ioShadow = s.ioShadow ∧ (drawAddr s).2.bootRom = s.bootRom ∧
    (drawAddr s).2.bootImage = s.bootImage ∧ (drawAddr s).2.vbk = s.vbk ∧ (drawAddr s).2.svbk = s.svbk ∧
    (drawAddr s).2.mapper = s.mapper ∧ (drawAddr s).2.cartRtc = s.cartRtc ∧ (drawAddr s).2.ppu = s.ppu ∧
    (drawAddr s).2.sound = s.sound ∧ (drawAddr s).2.serial = s.serial ∧ (drawAddr s).2.camera = s.camera ∧
    (drawAddr s).2.joypad = s.joypad ∧ (drawAddr s).2.fault = s.fault ∧ (drawAddr s).2.anomalies = s.anomalies ∧
    (drawAddr s).2.runStart = s.runStart ∧ (drawAddr s).2.refused = s.refused ∧ (drawAddr s).2.inputs = s.inputs ∧
    (drawAddr s).2.response = s.response ∧ (drawAddr s).2.cpuTape = s.cpuTape ∧ (drawAddr s).2.cpuCore = s.cpuCore ∧
    (drawAddr s).2.cpuReplies = s.cpuReplies :=
  ⟨rfl, rfl, rfl, rfl, rfl, rfl, rfl, rfl, rfl, rfl, rfl, rfl, rfl, rfl, rfl, rfl, rfl, rfl, rfl, rfl, rfl, rfl, rfl, rfl, rfl, rfl, rfl, rfl, rfl, rfl, rfl, rfl, rfl, rfl, rfl, rfl, rfl, rfl, rfl, rfl, rfl, rfl, rfl, rfl, rfl, rfl, rfl, rfl, rfl, rfl, rfl, rfl⟩

/-- drawMem advances the draw counter only. -/
@[simp] theorem drawMem_keeps (s : State) :
    (drawMem s).2.params = s.params ∧ (drawMem s).2.ref = s.ref ∧ (drawMem s).2.last = s.last ∧
    (drawMem s).2.segTarget = s.segTarget ∧ (drawMem s).2.debt = s.debt ∧ (drawMem s).2.burstStart = s.burstStart ∧
    (drawMem s).2.horizon = s.horizon ∧ (drawMem s).2.phase = s.phase ∧ (drawMem s).2.epoch = s.epoch ∧
    (drawMem s).2.breakFlag = s.breakFlag ∧ (drawMem s).2.bootEnabled = s.bootEnabled ∧
    (drawMem s).2.family = s.family ∧ (drawMem s).2.dispatchSet = s.dispatchSet ∧
    (drawMem s).2.renderer = s.renderer ∧ (drawMem s).2.doubleSpeed = s.doubleSpeed ∧
    (drawMem s).2.key1Prepare = s.key1Prepare ∧ (drawMem s).2.ieReg = s.ieReg ∧ (drawMem s).2.ifReg = s.ifReg ∧
    (drawMem s).2.ime = s.ime ∧ (drawMem s).2.haltMode = s.haltMode ∧ (drawMem s).2.cpuPc = s.cpuPc ∧
    (drawMem s).2.cpuSp = s.cpuSp ∧ (drawMem s).2.timer = s.timer ∧ (drawMem s).2.odma = s.odma ∧
    (drawMem s).2.hdma = s.hdma ∧ (drawMem s).2.rom = s.rom ∧ (drawMem s).2.eram = s.eram ∧
    (drawMem s).2.vram = s.vram ∧ (drawMem s).2.wram = s.wram ∧ (drawMem s).2.oam = s.oam ∧
    (drawMem s).2.hram = s.hram ∧ (drawMem s).2.ioShadow = s.ioShadow ∧ (drawMem s).2.bootRom = s.bootRom ∧
    (drawMem s).2.bootImage = s.bootImage ∧ (drawMem s).2.vbk = s.vbk ∧ (drawMem s).2.svbk = s.svbk ∧
    (drawMem s).2.mapper = s.mapper ∧ (drawMem s).2.cartRtc = s.cartRtc ∧ (drawMem s).2.ppu = s.ppu ∧
    (drawMem s).2.sound = s.sound ∧ (drawMem s).2.serial = s.serial ∧ (drawMem s).2.camera = s.camera ∧
    (drawMem s).2.joypad = s.joypad ∧ (drawMem s).2.fault = s.fault ∧ (drawMem s).2.anomalies = s.anomalies ∧
    (drawMem s).2.runStart = s.runStart ∧ (drawMem s).2.refused = s.refused ∧ (drawMem s).2.inputs = s.inputs ∧
    (drawMem s).2.response = s.response ∧ (drawMem s).2.cpuTape = s.cpuTape ∧ (drawMem s).2.cpuCore = s.cpuCore ∧
    (drawMem s).2.cpuReplies = s.cpuReplies :=
  ⟨rfl, rfl, rfl, rfl, rfl, rfl, rfl, rfl, rfl, rfl, rfl, rfl, rfl, rfl, rfl, rfl, rfl, rfl, rfl, rfl, rfl, rfl, rfl, rfl, rfl, rfl, rfl, rfl, rfl, rfl, rfl, rfl, rfl, rfl, rfl, rfl, rfl, rfl, rfl, rfl, rfl, rfl, rfl, rfl, rfl, rfl, rfl, rfl, rfl, rfl, rfl, rfl⟩

@[simp] theorem raiseIrq_ifReg (i : Nat) (s : State) : (raiseIrq i s).ifReg = s.ifReg ||| sourceBit i := rfl
@[simp] theorem clearIrq_ifReg (i : Nat) (s : State) : (clearIrq i s).ifReg = s.ifReg &&& ~~~(sourceBit i) := rfl
@[simp] theorem setLast_last (sub : Subsystem) (r : Nat) (s : State) : (setLast sub r s).last = s.last.set sub r := rfl
@[simp] theorem selectDispatch_dispatchSet (s : State) :
    (selectDispatch s).dispatchSet = sel s.family s.bootEnabled := rfl
@[simp] theorem setPc_cpuPc (a : Addr) (s : State) : (setPc a s).cpuPc = a := rfl
@[simp] theorem setSp_cpuSp (a : Addr) (s : State) : (setSp a s).cpuSp = a := rfl
@[simp] theorem setIme_ime (b : Bool) (s : State) : (setIme b s).ime = b := rfl
@[simp] theorem writeIf_ifReg (v : Byte) (s : State) :
    (writeIf v s).ifReg = (s.ifReg &&& 0xE0) ||| (v &&& 0x1F) := rfl

/-- A counter just set reads back; the other five keep their value (R34). -/
@[simp] theorem lasts_get_set (l : Lasts) (a b : Subsystem) (r : Nat) :
    (l.set a r).get b = if b = a then r else l.get b := by
  cases a <;> cases b <;> rfl

end Sys2Proof.Machine
end

