-- ==== Sys2Proof/Laws/Frames.lean ====
section
/-! SUPPORT. What each shared operation changes, as an equation: the state after is the state before but for the named
fields. A field equation follows by congruence, for example `congrArg State.ref (tickTimer_frame s)`. -/

namespace Sys2Proof.Machine

open Sys2Proof.Safety

/-- `raise` records a fault (R495). -/
theorem raise_frame (f : Fault) (s : State) :
    raise f s =
      { s with
        fault := (raise f s).fault } := by
  unfold raise
  split <;> rfl

/-- `respond` sets the port (R149). -/
theorem respond_frame (r : Response) (s : State) :
    respond r s =
      { s with
        response := (respond r s).response } := by
  unfold respond unlessFaulted
  split <;> rfl

/-- `addClock` advances the clock or raises (R241). -/
theorem addClock_frame (n : Nat) (s : State) :
    addClock n s =
      { s with
        ref := (addClock n s).ref
        fault := (addClock n s).fault } := by
  unfold addClock raise
  split
  · split <;> rfl
  · rfl

/-- `logOnce` appends to the log at most (R491). -/
theorem logOnce_frame (k : AnomalyKind) (s : State) :
    logOnce k s =
      { s with
        anomalies := (logOnce k s).anomalies } := by
  unfold logOnce logAnomaly
  split <;> rfl

/-- One timer clock (R313, R289). -/
theorem tickTimer_frame (s : State) :
    tickTimer s =
      { s with
        timer := (tickTimer s).timer
        ifReg := (tickTimer s).ifReg } := by
  unfold tickTimer raiseIrq
  split <;> rfl

/-- A ROM read changes nothing but the draw counter. -/
theorem romRead_frame (bank off : Nat) (s : State) :
    (romRead s bank off).2 =
      { s with
        draws := ((romRead s bank off).2).draws } := by
  unfold romRead
  split <;> rfl

/-- A read of the camera registers changes nothing but the draw counter (R446, R450). -/
theorem cameraRead_frame (a : Nat) (s : State) :
    (cameraRead a s).2 =
      { s with
        draws := ((cameraRead a s).2).draws } := by
  unfold cameraRead
  split <;> rfl

/-- A read of the mapper window changes nothing but the draw counter (R450). -/
theorem windowRead_frame (a : Nat) (s : State) :
    (windowRead s a).2 =
      { s with
        draws := ((windowRead s a).2).draws } := by
  unfold windowRead
  split
  · exact cameraRead_frame a s
  · split
    · split <;> rfl
    · split <;> rfl
    all_goals rfl

/-- A banked read changes nothing but the draw counter (R450). -/
theorem bankedRead_frame (a : Nat) (s : State) :
    (bankedRead s a).2 =
      { s with
        draws := ((bankedRead s a).2).draws } := by
  unfold bankedRead
  split
  · exact romRead_frame _ _ s
  · split
    · exact romRead_frame _ _ s
    · exact windowRead_frame a s

/-- A cartridge read changes nothing but the draw counter (R450). -/
theorem mapperRead_frame (a : Nat) (s : State) :
    (mapperRead s a).2 =
      { s with
        draws := ((mapperRead s a).2).draws } := by
  unfold mapperRead
  split
  · rfl
  all_goals exact bankedRead_frame a s

/-- A read of the bank-0 window changes nothing but the draw counter. -/
theorem rom0Read_frame (a : Nat) (s : State) :
    (rom0Read s a).2 =
      { s with
        draws := ((rom0Read s a).2).draws } := by
  unfold rom0Read
  split
  · rfl
  · exact mapperRead_frame a s

/-- A DMA source read changes nothing but the draw counter (R354). -/
theorem dmaSrcRead_frame (a : Addr) (s : State) :
    (dmaSrcRead s a).2 =
      { s with
        draws := ((dmaSrcRead s a).2).draws } := by
  unfold dmaSrcRead
  split
  · exact rom0Read_frame _ s
  · exact mapperRead_frame _ s
  · exact mapperRead_frame _ s
  all_goals rfl

/-- An HDMA source read changes nothing but the draw counter (R368). -/
theorem hdmaSrcRead_frame (a : Nat) (s : State) :
    (hdmaSrcRead s a).2 =
      { s with
        draws := ((hdmaSrcRead s a).2).draws } := by
  unfold hdmaSrcRead
  split
  · rfl
  · exact dmaSrcRead_frame _ s

/-- Copying one OAM-DMA byte (R355). -/
theorem odmaCopyOne_frame (s : State) :
    odmaCopyOne s =
      { s with
        oam := (odmaCopyOne s).oam
        odma := (odmaCopyOne s).odma
        draws := (odmaCopyOne s).draws } := by
  have h := dmaSrcRead_frame (odmaNext s) s
  unfold odmaCopyOne
  dsimp only
  generalize dmaSrcRead s (odmaNext s) = r at h
  rw [h]

/-- Copying OAM-DMA bytes (R355). -/
theorem odmaCopy_frame (n : Nat) (s : State) :
    odmaCopy n s =
      { s with
        oam := (odmaCopy n s).oam
        odma := (odmaCopy n s).odma
        draws := (odmaCopy n s).draws } := by
  induction n generalizing s with
  | zero => rfl
  | succ n ih =>
    have h := ih (odmaCopyOne s)
    have h1 := odmaCopyOne_frame s
    unfold odmaCopy
    generalize odmaCopy n (odmaCopyOne s) = t at h
    generalize odmaCopyOne s = u at h h1
    rw [h, h1]

/-- One DMA clock (R355, R289). -/
theorem tickOdma_frame (s : State) :
    tickOdma s =
      { s with
        oam := (tickOdma s).oam
        odma := (tickOdma s).odma
        draws := (tickOdma s).draws } := by
  unfold tickOdma
  split
  · unfold odmaClock
    have h := odmaCopy_frame (odmaTarget (s.odma.elapsed + 1) - s.odma.copied)
      { s with odma := { s.odma with elapsed := s.odma.elapsed + 1 } }
    dsimp only at h ⊢
    generalize odmaCopy _ _ = w at h ⊢
    split <;> rw [h]
  · rfl

/-- Copying one byte of a block (R368). -/
theorem copyBlockByte_frame (i : Nat) (s : State) :
    copyBlockByte i s =
      { s with
        vram := (copyBlockByte i s).vram
        draws := (copyBlockByte i s).draws } := by
  have h := hdmaSrcRead_frame (s.hdma.src.toNat + i) s
  unfold copyBlockByte
  dsimp only
  generalize hdmaSrcRead s (s.hdma.src.toNat + i) = r at h
  rw [h]

/-- Copying the bytes of a block (R368). -/
theorem copyBytes_frame (l : List Nat) (s : State) :
    l.foldl (fun s i => copyBlockByte i s) s =
      { s with
        vram := (l.foldl (fun s i => copyBlockByte i s) s).vram
        draws := (l.foldl (fun s i => copyBlockByte i s) s).draws } := by
  induction l generalizing s with
  | nil => rfl
  | cons i l ih =>
    have h := ih (copyBlockByte i s)
    have h1 := copyBlockByte_frame i s
    simp only [List.foldl_cons]
    generalize l.foldl (fun s i => copyBlockByte i s) (copyBlockByte i s) = t at h
    generalize copyBlockByte i s = u at h h1
    rw [h, h1]

/-- Copying one block (R368). -/
theorem copyBlock_frame (s : State) :
    copyBlock s =
      { s with
        vram := (copyBlock s).vram
        hdma := (copyBlock s).hdma
        draws := (copyBlock s).draws } := by
  have h := copyBytes_frame (List.range 16) s
  unfold copyBlock
  dsimp only
  generalize (List.range 16).foldl (fun s i => copyBlockByte i s) s = u at h
  rw [h]

/-- The end of a transfer (R369). -/
theorem finishIfDone_frame (s : State) :
    finishIfDone s =
      { s with
        hdma := (finishIfDone s).hdma } := by
  unfold finishIfDone
  split <;> rfl

/-- The HBlank trigger (R365). -/
theorem onHblank_frame (ly : Byte) (s : State) :
    onHblank ly s =
      { s with
        vram := (onHblank ly s).vram
        hdma := (onHblank ly s).hdma
        draws := (onHblank ly s).draws } := by
  unfold onHblank
  split
  · split
    · rfl
    · have h := copyBlock_frame s
      dsimp only
      generalize copyBlock s = u at h
      generalize gdmaBlockClocks s = k
      have h2 := finishIfDone_frame { u with hdma := { u.hdma with lastLy := some ly, stall := u.hdma.stall + k } }
      generalize finishIfDone _ = w at h2 ⊢
      rw [h2, h]
  · rfl
  · rfl

/-- The mode-0 entry (R432). -/
theorem enterHblank_frame (ly : Byte) (s : State) :
    enterHblank ly s =
      { s with
        ppu := (enterHblank ly s).ppu
        ifReg := (enterHblank ly s).ifReg
        vram := (enterHblank ly s).vram
        hdma := (enterHblank ly s).hdma
        draws := (enterHblank ly s).draws } := by
  unfold enterHblank
  dsimp only
  generalize Config.ppuDraw s.renderer ly s.ppu.own.core s.vram.read s.oam.read = l
  have h := onHblank_frame ly { s with ppu := { s.ppu with own := { s.ppu.own with core := l } } }
  generalize onHblank ly _ = v at h ⊢
  rw [h]

/-- The IF bits of a PPU clock (R289). -/
theorem ppuIrqs_frame (e : PpuStep) (ended : Bool) (s : State) :
    ppuIrqs e ended s =
      { s with
        ifReg := (ppuIrqs e ended s).ifReg } := by
  unfold ppuIrqs
  dsimp only
  split <;> split <;> rfl

/-- One PPU clock (R432). -/
theorem ppuClock_frame (s : State) :
    ppuClock s =
      { s with
        ppu := (ppuClock s).ppu
        ifReg := (ppuClock s).ifReg
        vram := (ppuClock s).vram
        hdma := (ppuClock s).hdma
        draws := (ppuClock s).draws } := by
  unfold ppuClock
  dsimp only
  generalize Config.ppuStep _ _ _ _ _ = e
  generalize waitEnds (ppuWait s) = b
  generalize hp : ppuAged s e b = p
  have h1 := ppuIrqs_frame e b { s with ppu := p }
  generalize ppuIrqs e b { s with ppu := p } = u at h1
  split
  · have h := enterHblank_frame u.ppu.view.ly u
    generalize enterHblank u.ppu.view.ly u = v at h
    rw [h, h1]
  · rw [h1]

/-- One reference clock of the PPU (R289, R436). -/
theorem tickPpu_frame (s : State) :
    tickPpu s =
      { s with
        ppu := (tickPpu s).ppu
        ifReg := (tickPpu s).ifReg
        vram := (tickPpu s).vram
        hdma := (tickPpu s).hdma
        draws := (tickPpu s).draws } := by
  unfold tickPpu
  split
  · split
    · rfl
    · generalize hu : ({ s with ppu := { s.ppu with halfClock := false } } : State) = u
      have hf : u = { s with ppu := u.ppu } := by subst hu; rfl
      have h := ppuClock_frame u
      generalize ppuClock u = v at h
      rw [h, hf]
  · rfl

/-- One sound clock (R289). -/
theorem tickSound_frame (s : State) :
    tickSound s =
      { s with
        sound := (tickSound s).sound } := by
  unfold tickSound
  split <;> rfl

/-- The byte a transfer receives (R444). -/
theorem serialIncoming_frame (s : State) :
    (serialIncoming s).2 =
      { s with
        draws := ((serialIncoming s).2).draws
        anomalies := ((serialIncoming s).2).anomalies } := by
  unfold serialIncoming
  split <;> rfl

/-- A serial transition (R443). -/
theorem serialTransition_frame (s : State) :
    serialTransition s =
      { s with
        serial := (serialTransition s).serial
        ifReg := (serialTransition s).ifReg
        draws := (serialTransition s).draws
        anomalies := (serialTransition s).anomalies } := by
  unfold serialTransition
  split
  · have h := serialIncoming_frame s
    dsimp only
    generalize serialIncoming s = r at h
    unfold raiseIrq
    rw [h]
  · rfl

/-- One serial clock (R289, R443). -/
theorem tickSerial_frame (s : State) :
    tickSerial s =
      { s with
        serial := (tickSerial s).serial
        ifReg := (tickSerial s).ifReg
        draws := (tickSerial s).draws
        anomalies := (tickSerial s).anomalies } := by
  unfold tickSerial
  split
  · dsimp only
    generalize ageCore .serial s.serial.core s = l
    generalize hu : ({ s with serial := { core := l, wait := waitLess s.serial.wait } } : State) = u
    have hf : u = { s with serial := u.serial } := by subst hu; rfl
    split
    · have h := serialTransition_frame u
      generalize serialTransition u = v at h
      rw [h, hf]
    · rw [hf]
  · rfl

/-- Copying a camera frame (R446). -/
theorem copyFrame_frame (l : List Byte) (i : Nat) (s : State) :
    copyFrame l i s =
      { s with
        eram := (copyFrame l i s).eram } := by
  induction l generalizing i s with
  | nil => rfl
  | cons v l ih =>
    unfold copyFrame
    generalize hu : (if i < s.params.eramBanks * 0x2000 then { s with eram := s.eram.write i v } else s) = u
    have hf : u = { s with eram := u.eram } := by
      subst hu
      split <;> rfl
    have h := ih (i + 1) u
    generalize copyFrame l (i + 1) u = w at h
    rw [h, hf]

/-- A capture (R446). -/
theorem cameraCapture_frame (s : State) :
    cameraCapture s =
      { s with
        camera := (cameraCapture s).camera
        eram := (cameraCapture s).eram
        anomalies := (cameraCapture s).anomalies } := by
  unfold cameraCapture
  dsimp only
  generalize Config.cameraFrame s.params.cameraDevice s.camera.own.core = l
  generalize h1 : (if Config.cameraFilterUnsupported s.camera.own.core = true then
    logOnce .unsupportedCameraFilter s else s) = u
  have hu : u = { s with anomalies := u.anomalies } := by
    subst h1
    split
    · exact logOnce_frame _ s
    · rfl
  generalize h2 : (if s.params.cameraDevice = true then u else logAnomaly .resourceCamera none u) = v
  have hv : v = { u with anomalies := v.anomalies } := by
    subst h2
    split <;> rfl
  generalize h3 : ({ v with camera := { v.camera with frame := l } } : State) = w
  have hw : w = { v with camera := w.camera } := by subst h3; rfl
  have h := copyFrame_frame l (Config.cameraTarget s.camera.own.core) w
  generalize copyFrame l (Config.cameraTarget s.camera.own.core) w = x at h
  rw [h, hw, hv, hu]

/-- A camera transition (R446). -/
theorem cameraTransition_frame (s : State) :
    cameraTransition s =
      { s with
        camera := (cameraTransition s).camera
        eram := (cameraTransition s).eram
        anomalies := (cameraTransition s).anomalies } := by
  unfold cameraTransition
  dsimp only
  generalize h1 : (if Config.cameraCaptures s.camera.own.core = true then cameraCapture s else s) = u
  have hu : u = { s with camera := u.camera, eram := u.eram, anomalies := u.anomalies } := by
    subst h1
    split
    · exact cameraCapture_frame s
    · rfl
  rw [hu]

/-- One camera clock (R289, R446). -/
theorem tickCamera_frame (s : State) :
    tickCamera s =
      { s with
        camera := (tickCamera s).camera
        eram := (tickCamera s).eram
        anomalies := (tickCamera s).anomalies } := by
  unfold tickCamera
  split
  · dsimp only
    generalize ageCore .camera s.camera.own.core s = l
    generalize waitLess s.camera.own.wait = m
    generalize hu : ({ s with camera := { s.camera with own := { core := l, wait := m } } } : State) = u
    have hf : u = { s with camera := u.camera } := by subst hu; rfl
    split
    · have h := cameraTransition_frame u
      generalize cameraTransition u = v at h
      rw [h, hf]
    · rw [hf]
  · rfl

end Sys2Proof.Machine
end

