-- ==== Sys2Proof/Laws/Composite.lean ====
section
/-! SUPPORT. What the composite operations may change, in the terms of Safety: reconciliation, bus accesses, DMAEXEC,
the interrupt check, the burst. -/

namespace Sys2Proof.Machine

open Sys2Proof.Safety

/-! ## The frames compose -/

theorem advanceOnly_refl (s : State) : AdvanceOnly s s := rfl

theorem advanceOnly_trans {s t u : State} (h1 : AdvanceOnly s t) (h2 : AdvanceOnly t u) : AdvanceOnly s u := by
  unfold AdvanceOnly at *
  rw [h2, h1]

theorem reconcileOnly_refl (s : State) : ReconcileOnly s s := rfl

theorem reconcileOnly_trans {s t u : State} (h1 : ReconcileOnly s t) (h2 : ReconcileOnly t u) : ReconcileOnly s u := by
  unfold ReconcileOnly at *
  rw [h2, h1]

theorem accessOnly_refl (s : State) : AccessOnly s s := rfl

theorem accessOnly_trans {s t u : State} (h1 : AccessOnly s t) (h2 : AccessOnly t u) : AccessOnly s u := by
  unfold AccessOnly at *
  rw [h2, h1]

theorem clockOnly_refl (s : State) : ClockOnly s s := rfl

theorem clockOnly_trans {s t u : State} (h1 : ClockOnly s t) (h2 : ClockOnly t u) : ClockOnly s u := by
  unfold ClockOnly at *
  rw [h2, h1]

theorem checkOnly_refl (s : State) : CheckOnly s s := rfl

theorem checkOnly_trans {s t u : State} (h1 : CheckOnly s t) (h2 : CheckOnly t u) : CheckOnly s u := by
  unfold CheckOnly at *
  rw [h2, h1]

theorem burstOnly_refl (s : State) : BurstOnly s s := rfl

theorem burstOnly_trans {s t u : State} (h1 : BurstOnly s t) (h2 : BurstOnly t u) : BurstOnly s u := by
  unfold BurstOnly at *
  rw [h2, h1]

theorem reconcileOnly_of_advanceOnly {s t : State} (h : AdvanceOnly s t) : ReconcileOnly s t := by
  unfold AdvanceOnly at h
  unfold ReconcileOnly
  rw [h]

theorem accessOnly_of_reconcileOnly {s t : State} (h : ReconcileOnly s t) : AccessOnly s t := by
  unfold ReconcileOnly at h
  unfold AccessOnly
  rw [h]

theorem clockOnly_of_accessOnly {s t : State} (h : AccessOnly s t) : ClockOnly s t := by
  unfold AccessOnly at h
  unfold ClockOnly
  rw [h]

theorem checkOnly_of_clockOnly {s t : State} (h : ClockOnly s t) : CheckOnly s t := by
  unfold ClockOnly at h
  unfold CheckOnly
  rw [h]

theorem burstOnly_of_checkOnly {s t : State} (h : CheckOnly s t) : BurstOnly s t := by
  unfold CheckOnly at h
  unfold BurstOnly
  rw [h]

/-! ## Reconciliation -/

theorem tickSub_only (sub : Subsystem) (s : State) : AdvanceOnly s (tickSub sub s) := by
  unfold AdvanceOnly tickSub
  cases sub
  · dsimp only
    rw [tickTimer_frame s]
  · dsimp only
    rw [tickSerial_frame s]
  · dsimp only
    rw [tickPpu_frame s]
  · dsimp only
    rw [tickSound_frame s]
  · dsimp only
    rw [tickOdma_frame s]
  · dsimp only
    rw [tickCamera_frame s]

theorem advance_only (sub : Subsystem) (d : Nat) (s : State) : AdvanceOnly s (advance sub d s) := by
  induction d generalizing s with
  | zero => exact advanceOnly_refl s
  | succ d ih => exact advanceOnly_trans (tickSub_only sub s) (ih _)

theorem setLast_only (sub : Subsystem) (r : Nat) (s : State) : ReconcileOnly s (setLast sub r s) := rfl

theorem lockOne_only (c : Nat) (s : State) (sub : Subsystem) : ReconcileOnly s (lockOne c s sub) := by
  unfold lockOne
  split
  · exact reconcileOnly_trans (reconcileOnly_of_advanceOnly (tickSub_only sub s)) (setLast_only sub _ _)
  · exact reconcileOnly_refl s

theorem lockClock_only (c : Nat) (s : State) : ReconcileOnly s (lockClock c s) := by
  unfold lockClock
  generalize lockOrder = l
  induction l generalizing s with
  | nil => exact reconcileOnly_refl s
  | cons sub l ih => exact reconcileOnly_trans (lockOne_only c s sub) (ih _)

theorem lockstep_only (k r : Nat) (s : State) : ReconcileOnly s (lockstep k r s) := by
  induction k generalizing s with
  | zero => exact reconcileOnly_refl s
  | succ k ih =>
    unfold lockstep
    split
    · exact reconcileOnly_trans (lockClock_only _ s) (ih _)
    · exact reconcileOnly_refl s

/-- ReconcileAll to the current clock raises nothing. -/
theorem reconcileAll_eq (s : State) : reconcileAll s = lockstep s.ref s.ref s := by
  simp [reconcileAll, reconcileTo]

theorem reconcileAll_only (s : State) : ReconcileOnly s (reconcileAll s) := by
  rw [reconcileAll_eq]
  exact lockstep_only _ _ s

/-! ## Bus accesses -/

theorem drawByte_only (s : State) : AccessOnly s (drawByte s).2 := rfl

theorem mapperRead_only (a : Nat) (s : State) : AccessOnly s (mapperRead s a).2 := by
  unfold AccessOnly
  rw [mapperRead_frame a s]

theorem rom0Read_only (a : Nat) (s : State) : AccessOnly s (rom0Read s a).2 := by
  unfold AccessOnly
  rw [rom0Read_frame a s]

theorem setCollabState_only (c : Collab) (x : CollabCore) (s : State) : AccessOnly s (setCollabState c x s) := by
  cases c <;> rfl

theorem keepShadow_only (c : Collab) (bytes : List (Addr × Byte)) (s : State) : AccessOnly s (keepShadow c bytes s) := rfl

theorem collabReadEffect_only (c : Collab) (a : Addr) (s : State) : AccessOnly s (collabReadEffect c a s) :=
  accessOnly_trans (setCollabState_only c _ s) (keepShadow_only c _ _)

theorem collabRead_only (c : Collab) (a : Addr) (s : State) : AccessOnly s (collabRead c a s).2 := by
  unfold collabRead
  split
  · dsimp only
    split
    · exact collabReadEffect_only c a s
    · exact accessOnly_refl s
  · exact drawByte_only s

theorem ioRead_only (a : Addr) (s : State) : AccessOnly s (ioRead a s).2 := by
  unfold ioRead
  split
  all_goals first
    | exact collabRead_only _ a s
    | rfl

theorem regionValue_only (a : Addr) (s : State) : AccessOnly s (regionValue a s).2 := by
  unfold regionValue
  dsimp only
  split
  all_goals first
    | exact rom0Read_only _ s
    | exact mapperRead_only _ s
    | exact ioRead_only a s
    | rfl

theorem regionRead_only (a : Addr) (s : State) : AccessOnly s (regionRead a s).2 := by
  unfold regionRead
  split
  · exact drawByte_only s
  · exact regionValue_only a s

theorem ppuAfterWrite_only (c : Collab) (a : Addr) (v : Byte) (s : State) : AccessOnly s (ppuAfterWrite c a v s) := by
  cases c <;> rfl

theorem joypadIrq_only (c : Collab) (irq : Bool) (s : State) : AccessOnly s (joypadIrq c irq s) := by
  cases c <;> cases irq <;> rfl

theorem collabWrite_only (c : Collab) (a : Addr) (v : Byte) (s : State) : AccessOnly s (collabWrite c a v s) := by
  unfold collabWrite
  split
  · exact accessOnly_trans (setCollabState_only c _ s)
      (accessOnly_trans (keepShadow_only c _ _) (accessOnly_trans (ppuAfterWrite_only c a v _) (joypadIrq_only c _ _)))
  · exact accessOnly_refl s

theorem finishCopy_only (s : State) : AccessOnly s (finishIfDone (copyBlock s)) := by
  refine accessOnly_trans (t := copyBlock s) ?_ ?_
  · unfold AccessOnly
    rw [copyBlock_frame s]
  · unfold AccessOnly
    rw [finishIfDone_frame (copyBlock s)]

theorem startHdma_only (v : Byte) (s : State) : AccessOnly s (startHdma v s) := by
  unfold startHdma
  dsimp only
  split
  · split
    · rfl
    · refine accessOnly_trans ?_ (finishCopy_only _)
      rfl
  · rfl

theorem ioWrite_only (a : Addr) (v : Byte) (s : State) : AccessOnly s (ioWrite a v s) := by
  unfold ioWrite
  split
  all_goals first
    | exact collabWrite_only _ a v s
    | rfl
    | skip
  · unfold writeTima
    split
    · rfl
    · split <;> rfl
  · unfold writeHdma5
    split
    · exact startHdma_only v s
    · split
      · exact startHdma_only v s
      · rfl
    · rfl

theorem eramWrite_only (a : Nat) (v : Byte) (s : State) : AccessOnly s (eramWrite s a v) := by
  unfold eramWrite
  split <;> rfl

/-- Five draws (R454). -/
theorem drawRtc_snd (s : State) : (drawRtc s).2 = { s with draws := s.draws + 5 } := by
  simp only [drawRtc, drawByte, Nat.add_assoc, Nat.reduceAdd]

theorem latchRtc_only (m : Mbc3) (s : State) : AccessOnly s (latchRtc s m) := by
  have h := drawRtc_snd s
  unfold latchRtc
  split
  · dsimp only
    generalize drawRtc s = d at h
    unfold AccessOnly
    rw [h]
  · rfl

/-- Drawing bytes advances the draw counter by their number. -/
theorem drawBytes_snd (n : Nat) (s : State) : (drawBytes n s).2 = { s with draws := s.draws + n } := by
  induction n generalizing s with
  | zero => rfl
  | succ n ih =>
    unfold drawBytes
    dsimp only
    rw [ih]
    simp only [drawByte, Nat.add_assoc, Nat.add_comm 1 n]

theorem suppliedWrite_only (k : MapperKind) (m : BankRegs) (a : Nat) (v : Byte) (s : State) :
    AccessOnly s (suppliedWrite s k m a v) := by
  unfold AccessOnly suppliedWrite
  dsimp only
  rw [drawBytes_snd]

theorem sensorWrite_only (m : Mbc7) (a : Nat) (v : Byte) (s : State) : AccessOnly s (sensorWrite s m a v) := by
  unfold AccessOnly sensorWrite
  dsimp only
  rw [drawBytes_snd]

theorem mbc3Write_only (m : Mbc3) (a : Nat) (v : Byte) (s : State) : AccessOnly s (mbc3Write s m a v) := by
  unfold mbc3Write
  split
  · rfl
  · split
    · rfl
    · split
      · rfl
      · split
        · exact latchRtc_only m s
        · rfl

theorem bankWrite_only (a : Nat) (v : Byte) (s : State) : AccessOnly s (bankWrite s a v) := by
  unfold bankWrite
  split
  · rfl
  · rfl
  · rfl
  · exact mbc3Write_only _ a v s
  · rfl
  · rfl
  · rfl
  · rfl
  · rfl
  · rfl
  · exact suppliedWrite_only _ _ a v s

theorem cameraWrite_only (a : Nat) (v : Byte) (s : State) : AccessOnly s (cameraWrite a v s) := by
  unfold cameraWrite
  split <;> rfl

theorem mbc3RamWrite_only (m : Mbc3) (a : Nat) (v : Byte) (s : State) : AccessOnly s (mbc3RamWrite s m a v) := by
  unfold mbc3RamWrite
  split
  · rfl
  · exact eramWrite_only a v s

theorem windowWrite_only (a : Nat) (v : Byte) (s : State) : AccessOnly s (windowWrite s a v) := by
  unfold windowWrite
  split
  · exact cameraWrite_only a v s
  · split
    · exact mbc3RamWrite_only _ a v s
    · split
      · split
        · rfl
        · exact sensorWrite_only _ a v s
      · rfl
    · split
      · exact suppliedWrite_only _ _ a v s
      · exact eramWrite_only a v s
    all_goals exact eramWrite_only a v s

theorem mapperWrite_only (a : Nat) (v : Byte) (s : State) : AccessOnly s (mapperWrite s a v) := by
  unfold mapperWrite
  split
  · exact bankWrite_only a v s
  · exact windowWrite_only a v s

theorem regionWrite_only (a : Addr) (v : Byte) (s : State) : AccessOnly s (regionWrite a v s) := by
  unfold regionWrite
  dsimp only
  split
  all_goals first
    | exact mapperWrite_only _ v s
    | exact ioWrite_only a v s
    | rfl
    | (split <;> rfl)

theorem markBreak_only (a : Addr) (s : State) : AccessOnly s (markBreak a s) := by
  unfold markBreak
  split <;> rfl

theorem busRead_only (a : Addr) (s : State) : AccessOnly s (busRead a s).2 :=
  accessOnly_trans (accessOnly_of_reconcileOnly (reconcileAll_only s)) (regionRead_only a _)

theorem busWrite_only (a : Addr) (v : Byte) (s : State) : AccessOnly s (busWrite a v s) :=
  accessOnly_trans (accessOnly_of_reconcileOnly (reconcileAll_only s))
    (accessOnly_trans (regionWrite_only a v _) (markBreak_only a _))

/-! ## Faults, the clock, the response port -/

theorem raise_only (f : Fault) (s : State) : ClockOnly s (raise f s) := by
  unfold ClockOnly
  rw [raise_frame f s]

theorem respond_only (r : Response) (s : State) : ClockOnly s (respond r s) := by
  unfold ClockOnly
  rw [respond_frame r s]

theorem addClock_only (n : Nat) (s : State) : ClockOnly s (addClock n s) := by
  unfold ClockOnly
  rw [addClock_frame n s]

theorem reconcileAll_clockOnly (s : State) : ClockOnly s (reconcileAll s) :=
  clockOnly_of_accessOnly (accessOnly_of_reconcileOnly (reconcileAll_only s))

/-- A frame of a continuation is a frame of the guarded continuation. -/
theorem unlessFaulted_clockOnly {f : State → State} (s : State) (h : ∀ u, ClockOnly u (f u)) :
    ClockOnly s (unlessFaulted s f) := by
  unfold unlessFaulted
  split
  · exact h s
  · exact clockOnly_refl s

theorem unlessFaulted_checkOnly {f : State → State} (s : State) (h : ∀ u, CheckOnly u (f u)) :
    CheckOnly s (unlessFaulted s f) := by
  unfold unlessFaulted
  split
  · exact h s
  · exact checkOnly_refl s

theorem unlessFaulted_burstOnly {f : State → State} (s : State) (h : ∀ u, BurstOnly u (f u)) :
    BurstOnly s (unlessFaulted s f) := by
  unfold unlessFaulted
  split
  · exact h s
  · exact burstOnly_refl s

theorem unlessGdma_clockOnly {f : State → State} (s : State) (h : ∀ u, ClockOnly u (f u)) :
    ClockOnly s (unlessGdma f s) := by
  unfold unlessGdma
  split
  · exact raise_only _ s
  · exact h s
  · exact h s

theorem readCommand_only (a : Addr) (s : State) : ClockOnly s (readCommand a s) :=
  unlessGdma_clockOnly s fun u => clockOnly_trans (clockOnly_of_accessOnly (busRead_only a u)) (respond_only _ _)

theorem writeCommand_only (a : Addr) (v : Byte) (s : State) : ClockOnly s (writeCommand a v s) :=
  unlessGdma_clockOnly s fun u => clockOnly_of_accessOnly (busWrite_only a v u)

/-! ## DMAEXEC -/

theorem copyBlock_only (s : State) : ClockOnly s (copyBlock s) := by
  unfold ClockOnly
  rw [copyBlock_frame s]

theorem gdmaBlock_only (s : State) : ClockOnly s (gdmaBlock s) :=
  clockOnly_trans (reconcileAll_clockOnly s) (clockOnly_trans (copyBlock_only _) (addClock_only _ _))

theorem gdmaLoop_only (start c k : Nat) (s : State) : ClockOnly s (gdmaLoop start c k s) := by
  induction k generalizing s with
  | zero => exact clockOnly_refl s
  | succ k ih =>
    refine clockOnly_trans (gdmaBlock_only s) (unlessFaulted_clockOnly _ fun u => ?_)
    split
    · rfl
    · split
      · exact clockOnly_refl u
      · exact ih u

theorem payPrep_only (c : Nat) (s : State) : ClockOnly s (payPrep c s) := by
  unfold payPrep
  dsimp only
  exact clockOnly_trans (t := { s with hdma := _ }) rfl (addClock_only _ _)

theorem gdmaRun_only (c : Nat) (s : State) : ClockOnly s (gdmaRun c s) := by
  unfold gdmaRun
  split
  · refine clockOnly_trans (payPrep_only c s) (unlessFaulted_clockOnly _ fun u => ?_)
    split
    · exact clockOnly_refl u
    · exact gdmaLoop_only _ _ _ u
  · exact gdmaLoop_only _ _ _ s

theorem dmaExec_only (c : Nat) (s : State) : ClockOnly s (dmaExec c s) := by
  unfold dmaExec
  split
  · exact clockOnly_trans (gdmaRun_only c s) (respond_only _ _)
  · exact respond_only _ s
  · exact respond_only _ s

/-! ## The interrupt check -/

theorem addClock_checkOnly (n : Nat) (s : State) : CheckOnly s (addClock n s) :=
  checkOnly_of_clockOnly (addClock_only n s)

theorem reconcileAll_checkOnly (s : State) : CheckOnly s (reconcileAll s) :=
  checkOnly_of_clockOnly (reconcileAll_clockOnly s)

theorem busWrite_checkOnly (a : Addr) (v : Byte) (s : State) : CheckOnly s (busWrite a v s) :=
  checkOnly_of_clockOnly (clockOnly_of_accessOnly (busWrite_only a v s))

theorem takeVector_only (s : State) : CheckOnly s (takeVector s) := by
  unfold takeVector clearIrq
  dsimp only
  split <;> rfl

theorem acknowledge_only (s : State) : CheckOnly s (acknowledge s) := by
  unfold acknowledge
  dsimp only
  refine checkOnly_trans (t := addClock 8 { s with ime := false }) ?_ (unlessFaulted_checkOnly _ fun u => ?_)
  · exact checkOnly_trans (t := { s with ime := false }) rfl (addClock_checkOnly _ _)
  · refine checkOnly_trans (checkOnly_trans (busWrite_checkOnly _ _ u) (addClock_checkOnly 4 _))
      (unlessFaulted_checkOnly _ fun v => ?_)
    refine checkOnly_trans (t := { busWrite _ _ v with cpuSp := _ }) ?_
      (checkOnly_trans (reconcileAll_checkOnly _) (checkOnly_trans (takeVector_only _) (addClock_checkOnly 8 _)))
    exact checkOnly_trans (busWrite_checkOnly _ _ v) rfl

theorem wakeAfterAck_only (s : State) : CheckOnly s (wakeAfterAck s) := by
  unfold wakeAfterAck
  split
  · exact checkOnly_trans (t := { s with haltMode := .run }) rfl (addClock_checkOnly _ _)
  · exact checkOnly_refl s
  · exact checkOnly_refl s

theorem wakeWithoutService_only (s : State) : CheckOnly s (wakeWithoutService s) := by
  unfold wakeWithoutService
  split
  · exact checkOnly_trans (t := { s with haltMode := .run }) rfl (addClock_checkOnly _ _)
  · exact checkOnly_refl s
  · exact checkOnly_refl s

theorem irqDecide_only (s : State) : CheckOnly s (irqDecide s) := by
  have hrun : CheckOnly s (if pendingIrqs s = 0 then s
      else if s.ime then unlessFaulted (acknowledge s) wakeAfterAck else wakeWithoutService s) := by
    split
    · exact checkOnly_refl s
    · split
      · exact checkOnly_trans (acknowledge_only s) (unlessFaulted_checkOnly _ wakeAfterAck_only)
      · exact wakeWithoutService_only s
  unfold irqDecide
  split
  · unfold stopCheck
    split <;> rfl
  · exact hrun
  · exact hrun

theorem irqCheck_only (s : State) : CheckOnly s (irqCheck s) := by
  have h : ∀ u, CheckOnly u (respond (.clocks ((irqDecide (reconcileAll u)).ref - u.ref)) (irqDecide (reconcileAll u))) :=
    fun u => checkOnly_trans (checkOnly_trans (reconcileAll_checkOnly u) (irqDecide_only _))
      (checkOnly_of_clockOnly (respond_only _ _))
  unfold irqCheck unlessGdma
  split
  · exact checkOnly_of_clockOnly (raise_only _ s)
  · exact h s
  · exact h s

/-! ## The burst -/

theorem setHaltMode_only (m : HaltMode) (s : State) : BurstOnly s (setHaltMode m s) := by
  unfold setHaltMode
  split
  · split
    · unfold speedSwitch
      refine burstOnly_trans ?_ (burstOnly_of_checkOnly (addClock_checkOnly _ _))
      rfl
    · rfl
  · rfl
  · rfl

theorem command_burstOnly {f : State → State} (s : State) (h : ∀ u, BurstOnly u (f u)) :
    BurstOnly s (command f s) := by
  unfold command
  exact burstOnly_trans (t := { s with response := none }) rfl (unlessFaulted_burstOnly _ h)

theorem collectReply_only (s : State) : BurstOnly s (collectReply s) := by
  unfold collectReply
  split <;> rfl

theorem cpuRule_only {i : Instr} {f : State → State} (h : cpuRule i = some f) (s : State) : BurstOnly s (f s) := by
  cases i <;> simp only [cpuRule, Option.some.injEq, reduceCtorEq] at h <;> subst h
  · exact burstOnly_of_checkOnly (checkOnly_of_clockOnly (readCommand_only _ s))
  · exact burstOnly_of_checkOnly (checkOnly_of_clockOnly (writeCommand_only _ _ s))
  · exact burstOnly_of_checkOnly (checkOnly_of_clockOnly (readCommand_only _ s))
  · exact burstOnly_of_checkOnly (checkOnly_of_clockOnly (writeCommand_only _ _ s))
  · exact burstOnly_of_checkOnly (checkOnly_of_clockOnly (respond_only _ s))
  · exact burstOnly_of_checkOnly (addClock_checkOnly _ s)
  · exact burstOnly_of_checkOnly (checkOnly_of_clockOnly (dmaExec_only _ s))
  · rfl
  · rfl
  · rfl
  · exact setHaltMode_only _ s
  · exact setHaltMode_only _ s
  · exact setHaltMode_only _ s

theorem cpuIssueWord_only (w : Word) (s : State) : BurstOnly s (cpuIssueWord w s) := by
  unfold cpuIssueWord
  split
  · rename_i i _
    unfold cpuIssue
    split
    · rename_i f hf
      exact burstOnly_trans (command_burstOnly s (cpuRule_only hf)) (collectReply_only _)
    · exact burstOnly_of_checkOnly (checkOnly_of_clockOnly (raise_only _ s))
  · rfl

theorem cpuRun_only (next : Nat → List Response → Option Word) (k issued clocks : Nat) (s : State) :
    BurstOnly s (cpuRun next k issued clocks s).2 := by
  induction k generalizing issued clocks s with
  | zero => exact burstOnly_refl s
  | succ k ih =>
    unfold cpuRun
    split
    · exact burstOnly_trans (cpuIssueWord_only _ s) (ih _ _ _)
    · exact burstOnly_refl s

theorem cpuEnd_only (r : Nat × State) : BurstOnly r.2 (cpuEnd r) := by
  unfold cpuEnd
  split
  · exact burstOnly_trans (burstOnly_of_checkOnly (checkOnly_of_clockOnly (raise_only _ r.2))) rfl
  · rfl

theorem cpuStep_only (s : State) : BurstOnly s (cpuStep s) := by
  unfold cpuStep
  split
  · unfold cpuStepListed
    exact burstOnly_trans (t := { s with cpuTape := _, cpuReplies := [] }) rfl
      (burstOnly_trans (cpuRun_only _ _ _ _ _) (cpuEnd_only _))
  · unfold cpuStepFree
    exact burstOnly_trans (t := { s with cpuReplies := [] }) rfl
      (burstOnly_trans (cpuRun_only _ _ _ _ _) (burstOnly_trans (cpuEnd_only _) rfl))

theorem afterCheck_only (s : State) : BurstOnly s (afterCheck s) := by
  unfold afterCheck
  split
  · exact burstOnly_refl s
  · split
    · exact cpuStep_only s
    all_goals exact burstOnly_of_checkOnly (addClock_checkOnly _ s)

theorem burstStep_only (s : State) : BurstOnly s (burstStep s) := by
  have h : BurstOnly s (if s.hdma.stall > 0 then payStall s else unlessFaulted (irqCheck s) afterCheck) := by
    split
    · unfold payStall
      exact burstOnly_trans (burstOnly_of_checkOnly (addClock_checkOnly _ s))
        (unlessFaulted_burstOnly _ fun _ => rfl)
    · exact burstOnly_trans (burstOnly_of_checkOnly (irqCheck_only s)) (unlessFaulted_burstOnly _ afterCheck_only)
  unfold burstStep
  split
  · exact burstOnly_of_checkOnly (checkOnly_of_clockOnly (dmaExec_only _ s))
  · exact h
  · exact h

theorem burstLoop_only (h k : Nat) (s : State) : BurstOnly s (burstLoop h k s) := by
  induction k generalizing s with
  | zero => exact burstOnly_refl s
  | succ k ih =>
    refine burstOnly_trans (burstStep_only s) (unlessFaulted_burstOnly _ fun u => ?_)
    dsimp only
    refine burstOnly_trans (t := { u with breakFlag := false }) rfl ?_
    split
    · exact burstOnly_refl _
    · exact ih _

theorem setHorizon_only (s : State) : BurstOnly s (setHorizon s) := by
  unfold setHorizon
  dsimp only
  refine burstOnly_trans (burstOnly_of_checkOnly (reconcileAll_checkOnly s)) ?_
  split
  · exact burstOnly_of_checkOnly (checkOnly_of_clockOnly (raise_only _ _))
  · rfl

theorem burst_only (s : State) : BurstOnly s (burst s) := by
  unfold burst
  refine burstOnly_trans (setHorizon_only s) (unlessFaulted_burstOnly _ fun u => ?_)
  exact burstOnly_trans (t := startBurst u) rfl (burstLoop_only _ _ _)

theorem segmentLoop_only (k : Nat) (s : State) : BurstOnly s (segmentLoop k s) := by
  induction k generalizing s with
  | zero => exact burstOnly_refl s
  | succ k ih =>
    unfold segmentLoop
    refine unlessFaulted_burstOnly s fun u => ?_
    split
    · exact burstOnly_trans (burst_only u) (ih _)
    · exact burstOnly_refl u

end Sys2Proof.Machine
end

