-- ==== Sys2Proof/Laws/Commands.lean ====
section
/-! SUPPORT. How a command runs: its rule in a state without a fault, nothing in a faulted one; and what the guards, the
port and the clock do in the state they are met in. -/

namespace Sys2Proof.Machine

open Sys2Proof.Safety

/-! ## The guards -/

/-- A guarded continuation of a block without a fault runs. -/
theorem unlessFaulted_ready {f : State → State} {s : State} (h : s.fault = none) : unlessFaulted s f = f s := by
  unfold unlessFaulted
  rw [h]

/-- A guarded continuation of a faulted block does not run. -/
theorem unlessFaulted_faulted {f : State → State} {s : State} {k : Fault} (h : s.fault = some k) :
    unlessFaulted s f = s := by
  unfold unlessFaulted
  rw [h]

/-- A command of a block without a fault is its rule, from the empty port. -/
theorem command_ready {f : State → State} {s : State} (h : Ready s) : command f s = f (begun s) :=
  unlessFaulted_ready (s := begun s) h

/-- A command of a faulted block only empties the port. -/
theorem command_faulted {f : State → State} {s : State} {k : Fault} (h : s.fault = some k) :
    command f s = begun s :=
  unlessFaulted_faulted (s := begun s) h

theorem unlessGdma_free {f : State → State} {s : State} (h : s.hdma.mode ≠ .general) : unlessGdma f s = f s := by
  unfold unlessGdma
  split
  · contradiction
  · rfl
  · rfl

theorem raise_ready {f : Fault} {s : State} (h : s.fault = none) : raise f s = { s with fault := some f } := by
  simp only [raise, h]

theorem respond_ready {r : Response} {s : State} (h : s.fault = none) : respond r s = { s with response := some r } :=
  unlessFaulted_ready h

theorem respond_faulted {r : Response} {s : State} {k : Fault} (h : s.fault = some k) : respond r s = s :=
  unlessFaulted_faulted h

theorem addClock_room {n : Nat} {s : State} (h : s.ref + n ≤ 0x7FFFFFFF) : addClock n s = { s with ref := s.ref + n } := by
  unfold addClock inf
  rw [if_neg (by omega)]

theorem addClock_full {n : Nat} {s : State} (h : 0x7FFFFFFF < s.ref + n) : addClock n s = raise .clockOverflow s := by
  unfold addClock inf
  rw [if_pos (by omega)]

/-! ## The reconciled state -/

/-- The reconciliation keeps the fault, the port, the clock, the parameters, the family and the mapper. -/
theorem current_fault (s : State) : (current s).fault = s.fault :=
  (congrArg State.fault (reconcileAll_only (begun s))).trans rfl

theorem current_response (s : State) : (current s).response = none :=
  (congrArg State.response (reconcileAll_only (begun s))).trans rfl

theorem current_ref (s : State) : (current s).ref = s.ref := (congrArg State.ref (reconcileAll_only (begun s))).trans rfl

theorem current_params (s : State) : (current s).params = s.params := (congrArg State.params (reconcileAll_only (begun s))).trans rfl

theorem current_family (s : State) : (current s).family = s.family := (congrArg State.family (reconcileAll_only (begun s))).trans rfl

theorem current_mapper (s : State) : (current s).mapper = s.mapper := (congrArg State.mapper (reconcileAll_only (begun s))).trans rfl

/-- Advancing a subsystem starts no general DMA and ends none. -/
theorem onHblank_general (ly : Byte) (s : State) : (onHblank ly s).hdma.mode = .general ↔ s.hdma.mode = .general := by
  have hc : (copyBlock s).hdma.mode = s.hdma.mode := by
    have h := copyBytes_frame (List.range 16) s
    unfold copyBlock
    dsimp only
    rw [h]
  unfold onHblank
  split
  · rename_i hm
    split
    · exact Iff.rfl
    · dsimp only
      unfold finishIfDone
      dsimp only
      split <;> simp [hc, hm]
  · rename_i hm
    simp [hm]
  · exact Iff.rfl

end Sys2Proof.Machine
end

