-- ==== Sys2Proof/Laws/Encoding.lean ====
section
/-! SUPPORT. The fields of a packed word read back (R140). -/

namespace Sys2Proof

/-- Appending bit strings, as numbers. -/
theorem toNat_append_add {m n : Nat} (x : BitVec m) (y : BitVec n) : (x ++ y).toNat = x.toNat * 2 ^ n + y.toNat := by
  rw [BitVec.toNat_append, ← Nat.shiftLeft_add_eq_or_of_lt y.isLt, Nat.shiftLeft_eq]

/-- A packed word as a number. -/
theorem toNat_packAddr (op : BitVec 5) (sub : BitVec 3) (data : Byte) (addr : Addr) :
    (packAddr op sub data addr).toNat = ((op.toNat * 2 ^ 3 + sub.toNat) * 2 ^ 8 + data.toNat) * 2 ^ 16 + addr.toNat := by
  unfold packAddr
  refine (toNat_append_add (op ++ sub ++ data) addr).trans ?_
  rw [toNat_append_add, toNat_append_add]

/-- A packed word with a count, as a number. -/
theorem toNat_packCount (op : BitVec 5) (sub : BitVec 3) (n : Count) :
    (packCount op sub n).toNat = (op.toNat * 2 ^ 3 + sub.toNat) * 2 ^ 24 + n.toNat := by
  unfold packCount
  refine (toNat_append_add (op ++ sub) n).trans ?_
  rw [toNat_append_add]

@[simp] theorem opField_packAddr (op : BitVec 5) (sub : BitVec 3) (data : Byte) (addr : Addr) :
    opField (packAddr op sub data addr) = op := by
  apply BitVec.eq_of_toNat_eq
  simp only [opField, BitVec.extractLsb'_toNat, toNat_packAddr, Nat.shiftRight_eq_div_pow]
  omega

@[simp] theorem subField_packAddr (op : BitVec 5) (sub : BitVec 3) (data : Byte) (addr : Addr) :
    subField (packAddr op sub data addr) = sub := by
  apply BitVec.eq_of_toNat_eq
  simp only [subField, BitVec.extractLsb'_toNat, toNat_packAddr, Nat.shiftRight_eq_div_pow]
  omega

@[simp] theorem dataField_packAddr (op : BitVec 5) (sub : BitVec 3) (data : Byte) (addr : Addr) :
    dataField (packAddr op sub data addr) = data := by
  apply BitVec.eq_of_toNat_eq
  simp only [dataField, BitVec.extractLsb'_toNat, toNat_packAddr, Nat.shiftRight_eq_div_pow]
  omega

@[simp] theorem addrField_packAddr (op : BitVec 5) (sub : BitVec 3) (data : Byte) (addr : Addr) :
    addrField (packAddr op sub data addr) = addr := by
  apply BitVec.eq_of_toNat_eq
  simp only [addrField, BitVec.extractLsb'_toNat, toNat_packAddr, Nat.shiftRight_eq_div_pow]
  omega

@[simp] theorem opField_packCount (op : BitVec 5) (sub : BitVec 3) (n : Count) : opField (packCount op sub n) = op := by
  apply BitVec.eq_of_toNat_eq
  simp only [opField, BitVec.extractLsb'_toNat, toNat_packCount, Nat.shiftRight_eq_div_pow]
  omega

@[simp] theorem subField_packCount (op : BitVec 5) (sub : BitVec 3) (n : Count) : subField (packCount op sub n) = sub := by
  apply BitVec.eq_of_toNat_eq
  simp only [subField, BitVec.extractLsb'_toNat, toNat_packCount, Nat.shiftRight_eq_div_pow]
  omega

@[simp] theorem countField_packCount (op : BitVec 5) (sub : BitVec 3) (n : Count) :
    countField (packCount op sub n) = n := by
  apply BitVec.eq_of_toNat_eq
  simp only [countField, BitVec.extractLsb'_toNat, toNat_packCount, Nat.shiftRight_eq_div_pow]
  omega

end Sys2Proof
end

