-- ==== Sys2Proof/Laws/Memory.lean ====
section
/-! SUPPORT. The laws of the byte arrays: a read after a write, and the canonical form every write keeps. -/

namespace Sys2Proof.Machine

/-! ## Lists of cells -/

/-- A rising list from `lo` rises from any lower bound. -/
theorem cellsRise_weaken {lo lo' : Nat} {l : List Host.Cell} (h : cellsRise lo l = true) (hl : lo' ≤ lo) :
    cellsRise lo' l = true := by
  cases l with
  | nil => rfl
  | cons c rest =>
    simp only [cellsRise, Bool.and_eq_true, decide_eq_true_eq] at h ⊢
    exact ⟨hl.trans h.1, h.2⟩

/-- Nothing below a rising list's bound is listed. -/
theorem cellLookup_below {lo a : Nat} {l : List Host.Cell} (h : cellsRise lo l = true) (ha : a < lo) :
    cellLookup a l = none := by
  induction l generalizing lo with
  | nil => rfl
  | cons c rest ih =>
    simp only [cellsRise, Bool.and_eq_true, decide_eq_true_eq] at h
    simp only [cellLookup]
    rw [if_neg (by omega)]
    exact ih h.2 (by omega)

/-- Inserting keeps the order. -/
theorem cellsRise_insert {lo a : Nat} (v : Byte) {l : List Host.Cell} (h : cellsRise lo l = true) (ha : lo ≤ a) :
    cellsRise lo (cellInsert a v l) = true := by
  induction l generalizing lo with
  | nil => simp [cellInsert, cellsRise, ha]
  | cons c rest ih =>
    simp only [cellsRise, Bool.and_eq_true, decide_eq_true_eq] at h
    simp only [cellInsert]
    split
    · simp only [cellsRise, Bool.and_eq_true, decide_eq_true_eq]
      exact ⟨ha, by omega, h.2⟩
    · split
      · rename_i hk
        simp only [cellsRise, Bool.and_eq_true, decide_eq_true_eq]
        exact ⟨ha, hk ▸ h.2⟩
      · simp only [cellsRise, Bool.and_eq_true, decide_eq_true_eq]
        exact ⟨h.1, ih h.2 (by omega)⟩

/-- Erasing keeps the order. -/
theorem cellsRise_erase {lo : Nat} (a : Nat) {l : List Host.Cell} (h : cellsRise lo l = true) :
    cellsRise lo (cellErase a l) = true := by
  induction l generalizing lo with
  | nil => rfl
  | cons c rest ih =>
    simp only [cellsRise, Bool.and_eq_true, decide_eq_true_eq] at h
    simp only [cellErase]
    split
    · exact cellsRise_weaken h.2 (by omega)
    · simp only [cellsRise, Bool.and_eq_true, decide_eq_true_eq]
      exact ⟨h.1, ih h.2⟩

/-- The inserted cell is found. -/
theorem cellLookup_insert_same (a : Nat) (v : Byte) (l : List Host.Cell) :
    cellLookup a (cellInsert a v l) = some v := by
  induction l with
  | nil => simp [cellInsert, cellLookup]
  | cons c rest ih =>
    simp only [cellInsert]
    split
    · simp [cellLookup]
    · split
      · simp [cellLookup]
      · rename_i h1 h2
        simp only [cellLookup]
        rw [if_neg (by omega)]
        exact ih

/-- Every other cell is as before an insertion. -/
theorem cellLookup_insert_other {a b : Nat} (v : Byte) (l : List Host.Cell) (hab : b ≠ a) :
    cellLookup b (cellInsert a v l) = cellLookup b l := by
  induction l with
  | nil => simp [cellInsert, cellLookup, Ne.symm hab]
  | cons c rest ih =>
    simp only [cellInsert]
    split
    · simp [cellLookup, Ne.symm hab]
    · split
      · rename_i _ hk
        simp [cellLookup, Ne.symm hab, ← hk]
      · simp only [cellLookup, ih]

/-- The erased cell of a rising list is gone. -/
theorem cellLookup_erase_same {lo : Nat} (a : Nat) {l : List Host.Cell} (h : cellsRise lo l = true) :
    cellLookup a (cellErase a l) = none := by
  induction l generalizing lo with
  | nil => rfl
  | cons c rest ih =>
    simp only [cellsRise, Bool.and_eq_true, decide_eq_true_eq] at h
    simp only [cellErase]
    split
    · rename_i hk
      exact cellLookup_below h.2 (by omega)
    · rename_i hk
      simp only [cellLookup, if_neg hk]
      exact ih h.2

/-- Every other cell is as before an erasure. -/
theorem cellLookup_erase_other {a b : Nat} (l : List Host.Cell) (hab : b ≠ a) :
    cellLookup b (cellErase a l) = cellLookup b l := by
  induction l with
  | nil => rfl
  | cons c rest ih =>
    simp only [cellErase]
    split
    · rename_i hk
      simp [cellLookup, hk, Ne.symm hab]
    · simp only [cellLookup, ih]

/-- Every cell after an insertion is the new one or was there. -/
theorem all_cellInsert {p : Host.Cell → Bool} {a : Nat} {v : Byte} {l : List Host.Cell} (hl : l.all p = true)
    (hv : p (a, v) = true) : (cellInsert a v l).all p = true := by
  induction l with
  | nil => simp [cellInsert, hv]
  | cons c rest ih =>
    simp only [List.all_cons, Bool.and_eq_true] at hl
    simp only [cellInsert]
    split
    · simp only [List.all_cons, hv, Bool.true_and, Bool.and_eq_true]
      exact hl
    · split
      · simp only [List.all_cons, hv, Bool.true_and]
        exact hl.2
      · simp only [List.all_cons, Bool.and_eq_true]
        exact ⟨hl.1, ih hl.2⟩

/-- Every cell after an erasure was there. -/
theorem all_cellErase {p : Host.Cell → Bool} (a : Nat) {l : List Host.Cell} (hl : l.all p = true) :
    (cellErase a l).all p = true := by
  induction l with
  | nil => rfl
  | cons c rest ih =>
    simp only [List.all_cons, Bool.and_eq_true] at hl
    simp only [cellErase]
    split
    · exact hl.2
    · simp only [List.all_cons, Bool.and_eq_true]
      exact ⟨hl.1, ih hl.2⟩

/-! ## Byte arrays -/

/-- A write leaves the filling. -/
@[simp] theorem mem_write_gen (m : Mem) (a : Nat) (v : Byte) : (m.write a v).gen = m.gen := by
  unfold Mem.write
  split <;> rfl

/-- A write leaves what unlisted addresses read as. -/
@[simp] theorem mem_write_fill (m : Mem) (a b : Nat) (v : Byte) : (m.write a v).fill b = m.fill b := by
  simp [Mem.fill]

/-- A byte written reads back. -/
theorem mem_read_write_same {m : Mem} (hm : m.wf = true) (a : Nat) (v : Byte) : (m.write a v).read a = v := by
  simp only [Mem.wf, Bool.and_eq_true] at hm
  unfold Mem.read
  rw [mem_write_fill]
  unfold Mem.write
  split
  · rename_i h
    simp [cellLookup_erase_same a hm.1, h]
  · simp [cellLookup_insert_same]

/-- A write leaves every other byte. -/
theorem mem_read_write_other (m : Mem) {a b : Nat} (v : Byte) (hab : b ≠ a) : (m.write a v).read b = m.read b := by
  unfold Mem.read
  rw [mem_write_fill]
  unfold Mem.write
  split
  · simp [cellLookup_erase_other _ hab]
  · simp [cellLookup_insert_other _ _ hab]

/-- A write keeps the canonical form. -/
theorem mem_wf_write {m : Mem} (hm : m.wf = true) (a : Nat) (v : Byte) : (m.write a v).wf = true := by
  have hf : ∀ c : Host.Cell, (m.write a v).fill c.1 = m.fill c.1 := fun c => mem_write_fill m a c.1 v
  simp only [Mem.wf, Bool.and_eq_true] at hm
  simp only [Mem.wf, Bool.and_eq_true, hf]
  unfold Mem.write
  split
  · exact ⟨cellsRise_erase a hm.1, all_cellErase a hm.2⟩
  · rename_i h
    exact ⟨cellsRise_insert v hm.1 (Nat.zero_le a), all_cellInsert hm.2 (by simpa using h)⟩

/-- A run of writes keeps the canonical form. -/
theorem mem_wf_writeList {m : Mem} (hm : m.wf = true) (a : Nat) (vs : List Byte) : (m.writeList a vs).wf = true := by
  induction vs generalizing m a with
  | nil => exact hm
  | cons v rest ih => exact ih (mem_wf_write hm a v) (a + 1)

/-- An array with nothing listed is canonical. -/
theorem mem_wf_nil (g : Nat) : Mem.wf { gen := g, cells := [] } = true := rfl

/-- An array built from cells is canonical. -/
theorem mem_wf_ofCells (g : Nat) (cells : List Host.Cell) : (Mem.ofCells g cells).wf = true := by
  unfold Mem.ofCells
  generalize hm : ({ gen := g, cells := [] } : Mem) = m
  have h : m.wf = true := hm ▸ mem_wf_nil g
  clear hm
  induction cells generalizing m with
  | nil => exact h
  | cons c rest ih => exact ih _ (mem_wf_write h c.1 c.2)

/-- A freshly drawn array is canonical. -/
theorem mem_wf_drawMem (s : State) : (drawMem s).1.wf = true := rfl

/-- The arrays at reset are canonical. -/
theorem mem_wf_blank : Mem.blank.wf = true := rfl

end Sys2Proof.Machine
end

