-- ==== Sys2Proof/Laws/PerInstr.lean ====
section
/-! SUPPORT. Per instruction: the encoder puts the row's op code in bits 31:27 (R140, R145, R146). -/

namespace Sys2Proof.Laws.OpField

/-- The op code of a row (R145, R146). -/
def code : Instr → BitVec 5
  | .rd8 _ => 0x01
  | .wr8 _ _ => 0x02
  | .rdreg8 _ => 0x03
  | .wrreg8 _ _ => 0x04
  | .clkget => 0x05
  | .clkadd _ => 0x06
  | .brkchk => 0x07
  | .irqchk => 0x08
  | .dmaexec _ => 0x09
  | .horizon => 0x0A
  | .reconcileTimer _ => 0x0B
  | .reconcileSerial _ => 0x0B
  | .reconcilePpu _ => 0x0B
  | .reconcileSound _ => 0x0B
  | .reconcileDma _ => 0x0B
  | .reconcileCamera _ => 0x0B
  | .nextevtTimer => 0x0C
  | .nextevtSerial => 0x0C
  | .nextevtPpu => 0x0C
  | .nextevtSound => 0x0C
  | .nextevtDma => 0x0C
  | .nextevtCamera => 0x0C
  | .subresetTimer => 0x0D
  | .subresetSerial => 0x0D
  | .subresetPpu => 0x0D
  | .subresetSound => 0x0D
  | .subresetDma => 0x0D
  | .subresetCamera => 0x0D
  | .runfor _ => 0x0E
  | .poweron _ _ _ => 0x0F
  | .mappersetNone => 0x10
  | .mappersetMbc1 => 0x10
  | .mappersetMbc2 => 0x10
  | .mappersetMbc3 => 0x10
  | .mappersetMbc5 => 0x10
  | .mappersetMbc6 => 0x10
  | .mappersetMbc7 => 0x10
  | .mappersetMmm01 => 0x10
  | .mappersetRumble => 0x10
  | .mappersetCamera => 0x10
  | .cpusetPc _ => 0x11
  | .cpusetSp _ => 0x11
  | .cpusetIme _ => 0x11
  | .cpusetHaltRun => 0x11
  | .cpusetHaltHalt => 0x11
  | .cpusetHaltStop => 0x11

/-- The encoding of the instruction carries its row's op code. -/
def Statement (i : Instr) : Prop := opField (encode i) = code i

theorem rd8 (addr : Addr) : Statement (.rd8 addr) := opField_packAddr _ _ _ _
theorem wr8 (addr : Addr) (data : Byte) : Statement (.wr8 addr data) := opField_packAddr _ _ _ _
theorem rdreg8 (addr : Addr) : Statement (.rdreg8 addr) := opField_packAddr _ _ _ _
theorem wrreg8 (addr : Addr) (data : Byte) : Statement (.wrreg8 addr data) := opField_packAddr _ _ _ _
theorem clkget : Statement (.clkget) := opField_packCount _ _ _
theorem clkadd (n : Count) : Statement (.clkadd n) := opField_packCount _ _ _
theorem brkchk : Statement (.brkchk) := opField_packCount _ _ _
theorem irqchk : Statement (.irqchk) := opField_packCount _ _ _
theorem dmaexec (n : Count) : Statement (.dmaexec n) := opField_packCount _ _ _
theorem horizon : Statement (.horizon) := opField_packCount _ _ _
theorem reconcileTimer (n : Count) : Statement (.reconcileTimer n) := opField_packCount _ _ _
theorem reconcileSerial (n : Count) : Statement (.reconcileSerial n) := opField_packCount _ _ _
theorem reconcilePpu (n : Count) : Statement (.reconcilePpu n) := opField_packCount _ _ _
theorem reconcileSound (n : Count) : Statement (.reconcileSound n) := opField_packCount _ _ _
theorem reconcileDma (n : Count) : Statement (.reconcileDma n) := opField_packCount _ _ _
theorem reconcileCamera (n : Count) : Statement (.reconcileCamera n) := opField_packCount _ _ _
theorem nextevtTimer : Statement (.nextevtTimer) := opField_packCount _ _ _
theorem nextevtSerial : Statement (.nextevtSerial) := opField_packCount _ _ _
theorem nextevtPpu : Statement (.nextevtPpu) := opField_packCount _ _ _
theorem nextevtSound : Statement (.nextevtSound) := opField_packCount _ _ _
theorem nextevtDma : Statement (.nextevtDma) := opField_packCount _ _ _
theorem nextevtCamera : Statement (.nextevtCamera) := opField_packCount _ _ _
theorem subresetTimer : Statement (.subresetTimer) := opField_packCount _ _ _
theorem subresetSerial : Statement (.subresetSerial) := opField_packCount _ _ _
theorem subresetPpu : Statement (.subresetPpu) := opField_packCount _ _ _
theorem subresetSound : Statement (.subresetSound) := opField_packCount _ _ _
theorem subresetDma : Statement (.subresetDma) := opField_packCount _ _ _
theorem subresetCamera : Statement (.subresetCamera) := opField_packCount _ _ _
theorem runfor (n : Count) : Statement (.runfor n) := opField_packCount _ _ _
theorem poweron (model : BitVec 3) (boot cgb : Bool) : Statement (.poweron model boot cgb) := opField_packAddr _ _ _ _
theorem mappersetNone : Statement (.mappersetNone) := opField_packAddr _ _ _ _
theorem mappersetMbc1 : Statement (.mappersetMbc1) := opField_packAddr _ _ _ _
theorem mappersetMbc2 : Statement (.mappersetMbc2) := opField_packAddr _ _ _ _
theorem mappersetMbc3 : Statement (.mappersetMbc3) := opField_packAddr _ _ _ _
theorem mappersetMbc5 : Statement (.mappersetMbc5) := opField_packAddr _ _ _ _
theorem mappersetMbc6 : Statement (.mappersetMbc6) := opField_packAddr _ _ _ _
theorem mappersetMbc7 : Statement (.mappersetMbc7) := opField_packAddr _ _ _ _
theorem mappersetMmm01 : Statement (.mappersetMmm01) := opField_packAddr _ _ _ _
theorem mappersetRumble : Statement (.mappersetRumble) := opField_packAddr _ _ _ _
theorem mappersetCamera : Statement (.mappersetCamera) := opField_packAddr _ _ _ _
theorem cpusetPc (addr : Addr) : Statement (.cpusetPc addr) := opField_packAddr _ _ _ _
theorem cpusetSp (addr : Addr) : Statement (.cpusetSp addr) := opField_packAddr _ _ _ _
theorem cpusetIme (ime : Bool) : Statement (.cpusetIme ime) := opField_packAddr _ _ _ _
theorem cpusetHaltRun : Statement (.cpusetHaltRun) := opField_packAddr _ _ _ _
theorem cpusetHaltHalt : Statement (.cpusetHaltHalt) := opField_packAddr _ _ _ _
theorem cpusetHaltStop : Statement (.cpusetHaltStop) := opField_packAddr _ _ _ _

end Sys2Proof.Laws.OpField
end

