-- ==== Sys2Proof/Laws/Reset.lean ====
section
/-! SUPPORT. What SUBRESET and the six resets of POWERON change (R283, R400), and what each collaborator's reset sees. -/

namespace Sys2Proof.Machine

/-- What SUBRESET may change: the six subsystems' own state and counters, and the draw counter. -/
def ResetOnly (s t : State) : Prop :=
  t = { s with
    last := t.last, timer := t.timer, odma := t.odma, hdma := t.hdma, ppu := t.ppu, sound := t.sound
    serial := t.serial, camera := t.camera, draws := t.draws }

theorem resetOnly_trans {s t u : State} (h1 : ResetOnly s t) (h2 : ResetOnly t u) : ResetOnly s u := by
  unfold ResetOnly at h1 h2 ⊢
  rw [h1] at h2
  exact h2

theorem setLast_resetOnly (sub : Subsystem) (r : Nat) (s : State) : ResetOnly s (setLast sub r s) := rfl

/-- The timer's reset takes five draws. -/
theorem resetTimer_only (s : State) : ResetOnly s (resetTimer s) := by
  simp only [ResetOnly, resetTimer, drawAddr, drawByte]

/-- DMA's reset takes eleven draws. -/
theorem resetDma_only (s : State) : ResetOnly s (resetDma s) := by
  simp only [ResetOnly, resetDma, drawAddr, drawByte]

theorem resetSub_only (sub : Subsystem) (s : State) : ResetOnly s (resetSub sub s) := by
  cases sub
  · exact resetTimer_only s
  · rfl
  · rfl
  · rfl
  · exact resetDma_only s
  · rfl

theorem subReset_only (sub : Subsystem) (s : State) : ResetOnly s (subReset sub s) :=
  resetOnly_trans (resetSub_only sub s) (setLast_resetOnly sub _ _)

/-- Several SUBRESETs change no more than that. -/
theorem subResets_only (subs : List Subsystem) (s : State) :
    ResetOnly s (subs.foldl (fun s sub => subReset sub s) s) := by
  induction subs generalizing s with
  | nil => rfl
  | cons sub rest ih => exact resetOnly_trans (subReset_only sub s) (ih _)

theorem resetAll_only (s : State) : ResetOnly s (resetAll s) := subResets_only lockOrder s

/-- The PPU's reset follows the timer's. -/
theorem resetAll_ppu (s : State) : (resetAll s).ppu = (resetPpu (subReset .timer s)).ppu := rfl

/-- The serial collaborator's follows the PPU's. -/
theorem resetAll_serial (s : State) :
    (resetAll s).serial = resetCore s.params.hasSerial .serial (subReset .ppu (subReset .timer s)) := rfl

/-- The sound collaborator's follows DMA's. -/
theorem resetAll_sound (s : State) :
    (resetAll s).sound = resetCore s.params.hasSound .sound
      ([Subsystem.timer, .ppu, .serial, .dma].foldl (fun s sub => subReset sub s) s) := rfl

/-- The camera's is the last. -/
theorem resetAll_camera (s : State) :
    (resetAll s).camera = (resetCamera
      ([Subsystem.timer, .ppu, .serial, .dma, .sound].foldl (fun s sub => subReset sub s) s)).camera := rfl

end Sys2Proof.Machine
end

