-- ==== Sys2Proof/Laws/Shadow.lean ====
section
/-! SUPPORT. What a collaborator's register handler sees and keeps of `io_shadow` (R58). -/

namespace Sys2Proof.Machine

open Sys2Proof.Safety

/-- The model's test of ownership says what R57 says. -/
theorem ownsIo_iff (s : State) (c : Collab) (a : Addr) : ownsIo s c a = true ↔ OwnsIo s c a := by
  simp [ownsIo, OwnsIo, and_assoc]

/-- A handler sees the bytes of the addresses its collaborator owns, 0 elsewhere. -/
theorem shadowSeen_ownShadow (s : State) (c : Collab) : ShadowSeen s c (ownShadow c s) :=
  fun a => ⟨fun h => if_pos ((ownsIo_iff s c a).2 h), fun h => if_neg (mt (ownsIo_iff s c a).1 h)⟩

/-- It sees nothing else. -/
theorem shadowSeen_unique {s : State} {c : Collab} {seen : Addr → Byte} (h : ShadowSeen s c seen) :
    seen = ownShadow c s := by
  funext a
  by_cases ha : OwnsIo s c a
  · exact ((h a).1 ha).trans (((shadowSeen_ownShadow s c) a).1 ha).symm
  · exact ((h a).2 ha).trans (((shadowSeen_ownShadow s c) a).2 ha).symm

/-- An owned address lies in the I/O page, so its offset tells it from every other. -/
theorem shadowIndex_inj {s : State} {c : Collab} {a b : Addr} (ha : ownsIo s c a = true) (hb : ownsIo s c b = true)
    (h : shadowIndex a = shadowIndex b) : a = b := by
  simp only [ownsIo, Bool.and_eq_true, decide_eq_true_eq] at ha hb
  have ha := ha.1.1
  have hb := hb.1.1
  unfold shadowIndex at h
  exact BitVec.eq_of_toNat_eq (by omega)

/-- Keeping bytes keeps the canonical form. -/
theorem keptShadow_wf (s : State) (c : Collab) (bytes : List (Addr × Byte)) {m : Mem} (hm : m.wf = true) :
    (keptShadow s c bytes m).wf = true := by
  induction bytes generalizing m with
  | nil => exact hm
  | cons b rest ih =>
    simp only [keptShadow]
    split
    · exact ih (mem_wf_write hm _ _)
    · exact ih hm

/-- A byte no owned address of the list names is as before. -/
theorem keptShadow_other (s : State) (c : Collab) {k : Nat} {bytes : List (Addr × Byte)} (m : Mem)
    (h : ∀ p ∈ bytes, ownsIo s c p.1 = true → k ≠ shadowIndex p.1) : (keptShadow s c bytes m).read k = m.read k := by
  induction bytes generalizing m with
  | nil => rfl
  | cons b rest ih =>
    simp only [keptShadow]
    rw [ih _ fun p hp => h p (List.mem_cons_of_mem _ hp)]
    split
    · rename_i ho
      exact mem_read_write_other m b.2 (h b List.mem_cons_self ho)
    · rfl

/-- A byte listed for an owned address, with no other byte for that address, reads back. -/
theorem keptShadow_same (s : State) (c : Collab) {p : Addr × Byte} {bytes : List (Addr × Byte)} {m : Mem}
    (hm : m.wf = true) (hp : p ∈ bytes) (ho : ownsIo s c p.1 = true) (hu : ∀ q ∈ bytes, q.1 = p.1 → q.2 = p.2) :
    (keptShadow s c bytes m).read (shadowIndex p.1) = p.2 := by
  induction bytes generalizing m with
  | nil => simp at hp
  | cons b rest ih =>
    simp only [keptShadow]
    have hm' : (if ownsIo s c b.1 then m.write (shadowIndex b.1) b.2 else m).wf = true := by
      split
      · exact mem_wf_write hm _ _
      · exact hm
    by_cases hr : ∃ q ∈ rest, q.1 = p.1
    · obtain ⟨q, hq, hqp⟩ := hr
      have hqe : q = p := Prod.ext hqp (hu q (List.mem_cons_of_mem _ hq) hqp)
      exact ih hm' (hqe ▸ hq) fun x hx => hu x (List.mem_cons_of_mem _ hx)
    · obtain rfl | hp := List.mem_cons.mp hp
      · rw [keptShadow_other, if_pos ho]
        · exact mem_read_write_same hm _ _
        · intro q hq hoq hk
          exact hr ⟨q, hq, (shadowIndex_inj ho hoq hk).symm⟩
      · exact absurd ⟨p, hp, rfl⟩ hr

/-- A handler that keeps bytes changes those of the addresses its collaborator owns, as it lists them, and no other. -/
theorem shadowKept_keptShadow (s : State) (c : Collab) (bytes : List (Addr × Byte)) :
    ShadowKept s c bytes (keptShadow s c bytes s.ioShadow) :=
  ⟨fun _ hp ho hu hm => keptShadow_same s c hm hp ((ownsIo_iff s c _).2 ho) hu,
   fun _ h => keptShadow_other s c _ fun p hp ho => h p hp ((ownsIo_iff s c _).1 ho)⟩

end Sys2Proof.Machine
end

