-- ==== Sys2Proof/Tests/Slice0.lean ====
section
/-! SUPPORT. The model's own tests: ill-formed terms refused, a word of every constructor decoded, single steps with the
values of spec/95's vectors, and for every statement with hypotheses a state and operands that meet them. -/

namespace Sys2Proof.Tests

open Sys2Proof.Machine Sys2Proof.Safety

/-! ## WellFormed -/

theorem test_illformed_rdreg8 : (Instr.rdreg8 0xC000).wellFormed = false := by decide
theorem test_illformed_wrreg8 : (Instr.wrreg8 0xFE07 0x05).wellFormed = false := by decide
theorem test_wellformed_regpage : (Instr.rdreg8 0xFFFF).wellFormed = true ∧ (Instr.wrreg8 0xFF00 0).wellFormed = true := by
  decide

/-! ## Decoding: words written out from R140-R146 (op in bits 31:27, sub in 26:24, data in 23:16, addr in 15:0) -/

theorem test_decode_bus :
    decode 0b00001000000000001100000000000000 = .ok (.rd8 0xC000) ∧
    decode 0b00010000110000001111111101000110 = .ok (.wr8 0xFF46 0xC0) ∧
    decode 0b00011000000000001111111111111111 = .ok (.rdreg8 0xFFFF) ∧
    decode 0b00100000000001011111111100000111 = .ok (.wrreg8 0xFF07 0x05) := by decide

theorem test_decode_clock :
    decode 0b00101000000000000000000000000000 = .ok .clkget ∧
    decode 0b00110000111111111111111111111111 = .ok (.clkadd 0xFFFFFF) ∧
    decode 0b00111000000000000000000000000000 = .ok .brkchk ∧
    decode 0b01000000000000000000000000000000 = .ok .irqchk ∧
    decode 0b01001000000000000000000000000001 = .ok (.dmaexec 1) ∧
    decode 0b01010000000000000000000000000000 = .ok .horizon := by decide

theorem test_decode_reconcile :
    decode 0b01011000000000000000001010000100 = .ok (.reconcileTimer 644) ∧
    decode 0x59000001 = .ok (.reconcileSerial 1) ∧ decode 0x5A000002 = .ok (.reconcilePpu 2) ∧
    decode 0x5B000008 = .ok (.reconcileSound 8) ∧ decode 0x5C000003 = .ok (.reconcileDma 3) ∧
    decode 0x5D000000 = .ok (.reconcileCamera 0) := by decide

theorem test_decode_nextevt :
    decode 0b01100000000000000000000000000000 = .ok .nextevtTimer ∧
    decode 0x61000000 = .ok .nextevtSerial ∧ decode 0x62000000 = .ok .nextevtPpu ∧
    decode 0x63000000 = .ok .nextevtSound ∧ decode 0x64000000 = .ok .nextevtDma ∧
    decode 0x65000000 = .ok .nextevtCamera := by decide

theorem test_decode_subreset :
    decode 0b01101100000000000000000000000000 = .ok .subresetDma ∧
    decode 0x68000000 = .ok .subresetTimer ∧ decode 0x69000000 = .ok .subresetSerial ∧
    decode 0x6A000000 = .ok .subresetPpu ∧ decode 0x6B000000 = .ok .subresetSound ∧
    decode 0x6D000000 = .ok .subresetCamera := by decide

theorem test_decode_system :
    decode 0b01110000000000010001001001010000 = .ok (.runfor 70224) ∧
    decode 0b01111100000000110000000000000000 = .ok (.poweron 4 true true) ∧
    decode 0x7E000000 = .ok (.poweron 6 false false) ∧ decode 0x7D010000 = .ok (.poweron 5 true false) := by decide

theorem test_decode_mapperset :
    decode 0b10000000000001010000000000000000 = .ok .mappersetMbc6 ∧
    decode 0x80000000 = .ok .mappersetNone ∧ decode 0x80010000 = .ok .mappersetMbc1 ∧
    decode 0x80020000 = .ok .mappersetMbc2 ∧ decode 0x80030000 = .ok .mappersetMbc3 ∧
    decode 0x80040000 = .ok .mappersetMbc5 ∧ decode 0x80060000 = .ok .mappersetMbc7 ∧
    decode 0x80070000 = .ok .mappersetMmm01 ∧ decode 0x80080000 = .ok .mappersetRumble ∧
    decode 0x80090000 = .ok .mappersetCamera := by decide

theorem test_decode_cpuset :
    decode 0b10001001000000001111111111111110 = .ok (.cpusetSp 0xFFFE) ∧
    decode 0x88001234 = .ok (.cpusetPc 0x1234) ∧ decode 0x8A010000 = .ok (.cpusetIme true) ∧
    decode 0x8A000000 = .ok (.cpusetIme false) ∧ decode 0x8B000000 = .ok .cpusetHaltRun ∧
    decode 0x8B010000 = .ok .cpusetHaltHalt ∧ decode 0x8B020000 = .ok .cpusetHaltStop := by decide

/-- TV-ENC-7 to TV-ENC-28. -/
theorem test_decode_refused :
    decode 0x00000000 = .error .reservedOp ∧ decode 0x90000000 = .error .reservedOp ∧
    decode 0xF8000000 = .error .reservedOp ∧ decode 0x0900C000 = .error .mustBeZero ∧
    decode 0x0801C000 = .error .mustBeZero ∧ decode 0x1800C000 = .error .notRegPage ∧
    decode 0x2005FE07 = .error .notRegPage ∧ decode 0x28000001 = .error .mustBeZero ∧
    decode 0x31000010 = .error .mustBeZero ∧ decode 0x5E000010 = .error .reservedSubsystem ∧
    decode 0x60000001 = .error .mustBeZero ∧ decode 0x6E000000 = .error .reservedSubsystem ∧
    decode 0x71000064 = .error .mustBeZero ∧ decode 0x78040000 = .error .mustBeZero ∧
    decode 0x78000001 = .error .mustBeZero ∧ decode 0x800A0000 = .error .reservedMapper ∧
    decode 0x81010000 = .error .mustBeZero ∧ decode 0x88010100 = .error .mustBeZero ∧
    decode 0x8A020000 = .error .mustBeZero ∧ decode 0x8B030000 = .error .reservedHaltMode ∧
    decode 0x8B010001 = .error .mustBeZero ∧ decode 0x8C000000 = .error .reservedSelector := by decide

/-! ## The fixture -/

/-- Fixture F0 of spec/95, its draws at 0. -/
def f0 : State := { State.reset with
  params := { initialParams with
    strictVram := false, gdmaBlockSingle := 32, gdmaBlockDouble := 32, hdmaPrepClocks := 0
    timaWriteInReload := .cancel, rtcSource := .emulated } }

/-- F0 on the CGB family. -/
def cgb : State := { f0 with family := .cgb, dispatchSet := .cgbNoboot, renderer := .cgb }

/-- F0 at clock `c` with every subsystem there. -/
def at' (c : Nat) : State :=
  { f0 with ref := c, last := { timer := c, serial := c, ppu := c, sound := c, dma := c, camera := c } }

/-- F0 with the timer set. -/
def timed (sys : BitVec 16) (tima tma : Byte) (tac : BitVec 3) : State :=
  { f0 with timer := { f0.timer with sysClocks := sys, tima := tima, tma := tma, tac := tac } }

/-- The state a command leaves. -/
def after (i : Instr) (s : State) : State :=
  match exec i s with
  | .next t => t
  | .fault _ | .refused _ => s

/-! ## Single steps -/

/-- TV-BUS-1, TV-BUS-2. -/
theorem test_rd8_echo : (after (.rd8 0xE123) (after (.wr8 0xC123 0x5A) f0)).response = some (.byte 0x5A) := by decide
theorem test_wr8_echo_top : (after (.wr8 0xFDFF 0x66) f0).wram.read 0x1DFF = 0x66 := by decide
/-- TV-BUS-3. -/
theorem test_rd8_unusable : after (.wr8 0xFEA0 0x77) f0 = f0 ∧ (after (.rd8 0xFEA0) f0).response = some (.byte 0x00) := by
  decide
/-- TV-BUS-4. -/
theorem test_rdreg8_unrecognized :
    (after (.rdreg8 0xFF03) f0).response = some (.byte 0xFF) ∧ (after (.rdreg8 0xFF03) f0).anomalies.length = 1 := by decide
/-- TV-BUS-4. -/
theorem test_wrreg8_breaks :
    (after (.wrreg8 0xFF03 0x12) f0).breakFlag = true ∧ (after (.wr8 0xFF80 0x12) f0).breakFlag = false := by decide
/-- TV-BUS-14. -/
theorem test_rd8_rom_bank_one :
    (after (.rd8 0x4000) { f0 with rom := f0.rom.write 0x4000 0x9B }).response = some (.byte 0x9B) := by decide
/-- TV-BUS-15. -/
theorem test_key1 : (after (.rdreg8 0xFF4D) (after (.wrreg8 0xFF4D 0x01) cgb)).response = some (.byte 0x7F) := by decide
/-- TV-BUS-5. -/
theorem test_boot_disabled :
    (after (.wr8 0xFF50 0x00) { f0 with bootEnabled := true, dispatchSet := .dmgBoot }).dispatchSet = .dmgNoboot := by decide
/-- TV-CLK-4. -/
theorem test_clkadd_overflow :
    (after (.clkadd 0x0F) (at' 0x7FFFFFF0)).ref = 0x7FFFFFFF ∧
    (after (.clkadd 1) (at' 0x7FFFFFFF)).fault = some .clockOverflow ∧ (after (.clkadd 1) (at' 0x7FFFFFFF)).ref = 0x7FFFFFFF := by
  decide
/-- TV-CLK-1. -/
theorem test_clkget : (after .clkget (at' 16)).response = some (.clocks 16) := by decide
/-- TV-CLK-8. -/
theorem test_brkchk : (after .brkchk (after (.wrreg8 0xFF07 0x05) f0)).response = some (.flag true) := by decide
/-- TV-CLK-5. -/
theorem test_horizon : (after .horizon (timed 0 0xFF 0x42 5)).response = some (.clocks 16) := by decide
/-- TV-REC-1. -/
theorem test_reconcile_timer :
    (after (.reconcileTimer 16) { timed 0 0 0 5 with ref := 16 }).timer.tima = 0x01 ∧
    (after (.reconcileTimer 16) { timed 0 0 0 5 with ref := 16 }).last.timer = 16 := by decide
/-- TV-REC-2, TV-REC-3. -/
theorem test_reconcile_backwards :
    (after (.reconcileTimer 8) (at' 16)).fault = some .refBackwards ∧ after (.reconcileSound 8) (at' 16) = at' 16 := by decide
/-- TV-TMR-1 at clock 20. -/
theorem test_nextevt_timer : (after .nextevtTimer (timed 0x14 0x42 0x42 5)).response = some (.clocks 3036) := by decide
/-- TV-REC-6. -/
theorem test_subreset_dma :
    (after .subresetDma { at' 100 with odma := { f0.odma with active := true, elapsed := 100, copied := 24 } }).odma.active =
      false := by decide
/-- TV-TMR-1 at clocks 16 and 20. -/
theorem test_timer_reload :
    (advance .timer 16 (timed 0 0xFF 0x42 5)).timer.tima = 0x00 ∧ (advance .timer 19 (timed 0 0xFF 0x42 5)).ifReg = 0x00 ∧
    (advance .timer 20 (timed 0 0xFF 0x42 5)).timer.tima = 0x42 ∧ (advance .timer 20 (timed 0 0xFF 0x42 5)).ifReg = 0x04 := by
  decide
/-- TV-TMR-4, TV-TMR-5. -/
theorem test_div_glitch :
    (after (.wrreg8 0xFF04 0x37) (timed 8 0x10 0 5)).timer.tima = 0x11 ∧
    (after (.wrreg8 0xFF04 0x37) (timed 7 0x10 0 5)).timer.tima = 0x10 := by decide
/-- TV-TMR-7, TV-TMR-8. -/
theorem test_tac_glitch :
    (after (.wrreg8 0xFF07 0x04) (timed 8 0x10 0 5)).timer.tima = 0x11 ∧
    (after (.wrreg8 0xFF07 0x05) (timed 8 0x10 0 1)).timer.tima = 0x10 := by decide
/-- TV-DMA-1 at 11 and 12 clocks. -/
theorem test_oam_dma :
    (advance .dma 11 (writeDmaReg 0xC0 f0)).odma.copied = 1 ∧ (advance .dma 12 (writeDmaReg 0xC0 f0)).odma.copied = 2 := by
  decide
/-- TV-DMA-7: HDMA3 and HDMA4 give 0x9FF0. -/
theorem test_hdma_pointer :
    (after (.wrreg8 0xFF54 0xF0) (after (.wrreg8 0xFF53 0x1F) cgb)).hdma.dstReg = 0x9FF0 := by decide
/-- TV-DMA-5 before its last block. -/
def gdma : State := { cgb with
  hdma := { cgb.hdma with mode := .general, remaining := 16, src := 0xC010, dst := 0x8020 }
  wram := cgb.wram.write 0x1F 0x9F }

/-- R400: the six SUBRESETs come before cpu.pc and cpu.sp, so their models see the old ones. -/
theorem test_poweron_resets_see_the_old_pc (m : HwModel) (boot cgb : Bool) (s : State) :
    (powerDraws (powerFixed m boot cgb s)).cpuPc = s.cpuPc ∧ (powerDraws (powerFixed m boot cgb s)).cpuSp = s.cpuSp :=
  ⟨rfl, rfl⟩

/-- TV-DMA-5, the last block. -/
theorem test_dmaexec :
    (after (.dmaexec 1) gdma).response = some (.clocks 32) ∧ (after (.dmaexec 1) gdma).vram.read 0x2F = 0x9F := by decide +kernel
/-- TV-BUS-16. -/
theorem test_bus_during_gdma :
    (after (.rd8 0xC000) (after (.wrreg8 0xFF55 0x00) cgb)).fault = some .cpuDuringGdma := by decide
/-- TV-IRQ-1. -/
theorem test_irqchk_acknowledge :
    (after .irqchk { f0 with ime := true, ifReg := 4, ieReg := 4, cpuPc := 0x1234, cpuSp := 0xD000 }).cpuPc = 0x0050 ∧
    (after .irqchk { f0 with ime := true, ifReg := 4, ieReg := 4, cpuPc := 0x1234, cpuSp := 0xD000 }).wram.read 0xFFF = 0x12 ∧
    (after .irqchk { f0 with ime := true, ifReg := 4, ieReg := 4, cpuPc := 0x1234, cpuSp := 0xD000 }).ref = 20 := by decide
/-- TV-IRQ-8: the push clears the request. -/
theorem test_irqchk_push_to_ie :
    (after .irqchk { f0 with ime := true, ifReg := 4, ieReg := 4, cpuPc := 0x0012, cpuSp := 0 }).cpuPc = 0x0000 ∧
    (after .irqchk { f0 with ime := true, ifReg := 4, ieReg := 4, cpuPc := 0x0012, cpuSp := 0 }).ifReg = 0x04 := by decide
/-- TV-SYS-3. -/
theorem test_poweron_sgb_cgb :
    (after (.poweron 2 false true) f0).family = .dmg ∧ (after (.poweron 2 false true) f0).anomalies.length = 1 := by decide
/-- TV-EXC-2, TV-EXC-3. -/
theorem test_poweron_clears_fault :
    (after (.poweron 0 false false) { f0 with fault := some .refAhead, refused := true }).fault = none ∧
    (after (.poweron 0 false false) { f0 with fault := some .refAhead, refused := true }).refused = true := by decide
/-- TV-SYS-6. -/
theorem test_mapperset_mbc6 :
    (after .mappersetMbc6 f0).mapper.kind = .mbc6 ∧ (after .mappersetMbc6 (after .mappersetMbc6 f0)).anomalies.length = 1 := by
  decide
/-- R451, R452: MBC1 bank 0x20 has its low five bits 0 and reads bank 1. -/
theorem test_mbc1_bank_zero : romCurr (after (.wr8 0x2000 0x20) (after .mappersetMbc1 f0)) = 1 := by decide
/-- TV-SYS-8, TV-SYS-9. -/
theorem test_cpuset_stop :
    (after .cpusetHaltStop { cgb with key1Prepare := true }).doubleSpeed = true ∧
    (after .cpusetHaltStop { cgb with key1Prepare := true }).haltMode = .run ∧
    (after .cpusetHaltStop f0).haltMode = .stop := by decide
/-- The last step of TV-SCH-1: ADD12 with 4 clocks left of the segment. -/
theorem test_runfor_add12 :
    (after (.runfor 4) { f0 with cpuTape := [[0x3000000C]] }).debt = 8 ∧
    (after (.runfor 4) { f0 with cpuTape := [[0x3000000C]] }).fault = none := by decide
/-- TV-SCH-8. -/
theorem test_runfor_protocol :
    (after (.runfor 12) { f0 with cpuTape := [[0x40000000]] }).fault = some .cpuProtocol := by decide

/-! ## Witnesses: for each statement with hypotheses, a state and operands that meet them together -/

/-- F0's memory and counters are sound. -/
theorem test_fixture_sound : CounterBounds f0 ∧ MemoryCanonical f0 ∧ FieldRanges f0 ∧ DispatchSelected f0 := by
  refine ⟨⟨by decide, fun sub => by cases sub <;> decide⟩, ?_, ?_, ?_⟩
  · unfold MemoryCanonical; decide
  · unfold FieldRanges; decide
  · unfold DispatchSelected; decide

theorem test_fixture_settled : Settled f0 := fun sub => by cases sub <;> decide

/-- For the equations of one command that need only that no fault stands (CLKGET, BRKCHK, SUBRESET, MAPPERSET, CPUSET). -/
theorem test_witness_ready : Ready f0 ∧ Ready cgb ∧ CpuMay f0 ∧ CpuMay cgb := by decide

theorem test_witness_decode_inverts : (Instr.wrreg8 0xFFFF 0xFF).wellFormed = true ∧ (Instr.rd8 0).wellFormed = true := by
  decide

theorem test_witness_accepted : decode 0x1800FFFF = .ok (.rdreg8 0xFFFF) := by decide

theorem test_witness_refused_word :
    { f0 with inputs := [.command 0] }.inputs = [.command 0] ∧ illegalWord 0 ∧ illegalWord 0x8C000000 := by
  refine ⟨rfl, ?_, ?_⟩ <;> (unfold illegalWord nonzeroReserved; decide)

theorem test_witness_refused_stays :
    ∃ t, step { f0 with inputs := [.command 0x78000000], refused := true } = .next t ∧
      { f0 with inputs := [.command 0x78000000], refused := true }.refused = true := ⟨_, rfl, rfl⟩

theorem test_witness_step :
    (f0.withFetchWord 32 0x28000000).inputs = [.command 0x28000000] ∧ decode 0x28000000 = .ok .clkget := by decide

theorem test_witness_host :
    f0.inputs = [] ∧
    { f0 with inputs := [.cartridge default] }.inputs = [.cartridge default] ∧
    { f0 with inputs := [.bootImage []] }.inputs = [.bootImage []] ∧
    { f0 with inputs := [.joypad 0] }.inputs = [.joypad 0] ∧ f0.params.hasJoypad = false ∧
    { f0 with inputs := [.takeAudio] }.inputs = [.takeAudio] ∧ { f0 with inputs := [.save] }.inputs = [.save] := by decide

theorem test_witness_joypad_lines :
    { f0 with inputs := [.joypad 1], params := { f0.params with hasJoypad := true } }.inputs = [.joypad 1] ∧
    { f0 with inputs := [.joypad 1], params := { f0.params with hasJoypad := true } }.params.hasJoypad = true := by decide

/-- A cartridge of one ROM byte and one save byte. -/
def cart : Cartridge := { rom := [(3, 7)], romBanks := 2, eramBanks := 1, saveRam := [(5, 9)], rtc := none }

theorem test_witness_cartridge :
    (3, 7) ∈ cart.rom ∧ (∀ p ∈ cart.rom, p.1 = 3 → p.2 = 7) ∧ (∀ p ∈ cart.rom, p.1 ≠ 4) ∧
    (5, 9) ∈ cart.saveRam ∧ (∀ p ∈ cart.saveRam, p.1 = 5 → p.2 = 9) ∧ (∀ p ∈ cart.saveRam, p.1 ≠ 4) := by decide

theorem test_witness_quiescent :
    { f0 with fault := some .refBackwards }.fault = some .refBackwards ∧ ¬ isPoweron (.clkadd 4) :=
  ⟨rfl, fun ⟨_, _, _, h⟩ => Instr.noConfusion h⟩

theorem test_witness_gdma :
    Ready gdma ∧ gdma.hdma.mode = .general ∧ ReadsBus (.rd8 0xC000) 0xC000 ∧ ReadsBus (.rdreg8 0xFF00) 0xFF00 ∧
    WritesBus (.wr8 0xC000 1) 0xC000 1 ∧ WritesBus (.wrreg8 0xFFFF 1) 0xFFFF 1 ∧
    gdma.ref + (0 : Count).toNat ≤ 0x7FFFFFFF ∧ switchesSpeed gdma = false := by decide

theorem test_witness_cpu_protocol :
    decode 0x38000000 = .ok .brkchk ∧ decode 0x40000000 = .ok .irqchk ∧ decode 0x50000000 = .ok .horizon ∧
    decode 0x58000001 = .ok (reconcileOf .timer 1) ∧ decode 0x65000000 = .ok (nextevtOf .camera) ∧
    decode 0x6C000000 = .ok (subresetOf .dma) ∧ decode 0x80050000 = .ok (mappersetOf .mbc6) ∧
    decode 0x78000000 = .ok (.poweron 0 false false) ∧ decode 0x7000000C = .ok (.runfor 12) := by decide

theorem test_witness_cpu_admitted :
    decode 0x0800C000 = .ok (.rd8 0xC000) ∧ decode 0x10C0FF46 = .ok (.wr8 0xFF46 0xC0) ∧
    decode 0x28000000 = .ok .clkget ∧ decode 0x30000010 = .ok (.clkadd 16) ∧ decode 0x48000001 = .ok (.dmaexec 1) ∧
    decode 0x88001234 = .ok (.cpusetPc 0x1234) ∧ decode 0x8900FFFE = .ok (.cpusetSp 0xFFFE) ∧
    decode 0x8A010000 = .ok (.cpusetIme true) ∧ decode 0x8B000000 = .ok .cpusetHaltRun ∧
    decode 0x8B010000 = .ok .cpusetHaltHalt ∧ decode 0x8B020000 = .ok .cpusetHaltStop := by decide

/-- A listed step of no clocks: a CLKADD of 0. -/
def idleWords : List Word := [0x30000000]

theorem test_witness_cpu_no_clocks : ∀ w ∈ idleWords, clkaddOf w = 0 := fun _ h => List.mem_singleton.mp h ▸ rfl

theorem test_witness_cpu_no_progress :
    (cpuRun (fun k _ => idleWords[k]?) 1 0 0 { f0 with cpuTape := [], cpuReplies := [] }).2.fault = none := rfl

theorem test_witness_cpu_progress :
    { f0 with cpuTape := [[encode (.clkadd 1)]] }.cpuTape = [encode (.clkadd 1)] :: [] ∧ 1 ≤ (1 : Count).toNat ∧
    f0.ref + (1 : Count).toNat ≤ 0x7FFFFFFF := by decide

/-- A general DMA inside a burst of 1 clock. -/
def gdmaBurst : State := { gdma with horizon := 1 }

theorem test_witness_burst_general :
    gdmaBurst.hdma.mode = .general ∧ Ready gdmaBurst ∧
    (1 : Count).toNat = max 1 (gdmaBurst.burstStart + gdmaBurst.horizon - gdmaBurst.ref) := by decide

theorem test_witness_burst_general_runs : (after (.dmaexec 1) gdmaBurst).fault = none := by decide +kernel

/-- In STOP inside a burst of 14 clocks, nothing on the joypad. -/
def stopped : State := { f0 with haltMode := .stop, horizon := 14 }

theorem test_witness_burst_stop :
    CpuMay stopped ∧ stopped.hdma.stall = 0 ∧ stopped.haltMode = .stop ∧ stopExit (reconcileAll stopped) = false ∧
    stopped.ref - stopped.burstStart < stopped.horizon ∧ 1 ≤ stopped.params.haltGranule ∧
    stopped.burstStart ≤ stopped.ref ∧
    stopped.ref + (stopped.burstStart + stopped.horizon - stopped.ref + stopped.params.haltGranule) ≤ 0x7FFFFFFF := by decide

theorem test_witness_clkadd :
    (at' 0x7FFFFFF0).ref + (0x0F : Count).toNat ≤ 0x7FFFFFFF ∧ 0x7FFFFFFF < (at' 0x7FFFFFF0).ref + (0x10 : Count).toNat ∧
    Ready (at' 0x7FFFFFF0) := by decide

/-- A state whose PPU is overdue (TV-REC-8). -/
def overduePpu : State := { f0 with
  params := { f0.params with hasPpu := true }, ppu := { f0.ppu with own := { core := [], wait := some 0 } } }

theorem test_witness_horizon :
    (∀ sub, sub ≠ .camera → 1 ≤ nextEvent sub (current f0)) ∧
    (∃ sub, sub ≠ .camera ∧ nextEvent sub (current overduePpu) = 0) ∧ Ready overduePpu :=
  ⟨fun sub _ => by cases sub <;> decide, ⟨.ppu, by decide, by decide⟩, by decide⟩

theorem test_witness_monotone :
    exec (.clkadd 4) f0 = .next { f0 with ref := 4 } ∧ ¬ isRunfor (.clkadd 4) ∧ ¬ isPoweron (.clkadd 4) :=
  ⟨rfl, fun ⟨_, h⟩ => Instr.noConfusion h, fun ⟨_, _, _, h⟩ => Instr.noConfusion h⟩

/-- The clauses of RECONCILE, at the values where they meet: below, at and beyond the counter and the clock. -/
theorem test_witness_reconcile :
    (15 : Count).toNat < (at' 16).last.get .sound ∧ (15 : Count).toNat < (at' 16).last.get .camera ∧
    ((at' 16).last.get .timer ≤ (17 : Count).toNat ∧ (at' 16).ref < (17 : Count).toNat) ∧
    ((at' 16).last.get .timer ≤ (16 : Count).toNat ∧ (16 : Count).toNat ≤ (at' 16).ref) := by decide

theorem test_witness_nextevt :
    1 ≤ nextEvent .timer (timed 0 0xFF 0 5) ∧ nextEvent .ppu overduePpu = 0 ∧ Ready (timed 0 0xFF 0 5) := by decide

theorem test_witness_subreset :
    f0.params.hasSerial = false ∧ f0.params.hasPpu = false ∧ f0.params.hasSound = false ∧ f0.params.hasCamera = false := by
  decide

theorem test_witness_reconcile_twice :
    ∃ t, exec (reconcileOf .timer 1) { timed 0 0 0 5 with ref := 1 } = .next t ∧ t.fault = none := ⟨_, rfl, by decide⟩

/-- RECONCILE in stages: at, between and at the end of the clocks it spans. -/
theorem test_witness_stages :
    Ready { timed 0 0 0 5 with ref := 2 } ∧ { timed 0 0 0 5 with ref := 2 }.last.get .timer ≤ (0 : Count).toNat ∧
    (1 : Count).toNat ≤ (2 : Count).toNat ∧ (2 : Count).toNat ≤ { timed 0 0 0 5 with ref := 2 }.ref ∧
    f0.params.serialPartner = false ∧ f0.params.hasPpu = false ∧ f0.params.hasCamera = false ∧ f0.odma.active = false := by decide

/-- The clock advanced by 2 between RECONCILE to 1 and RECONCILE to 3. -/
theorem test_witness_stages_advanced :
    (1 : Count).toNat ≤ (3 : Count).toNat ∧ (1 : Count).toNat ≤ { timed 0 0 0 5 with ref := 1 }.ref ∧
    (3 : Count).toNat ≤ { timed 0 0 0 5 with ref := 1 }.ref + (2 : Count).toNat ∧
    { timed 0 0 0 5 with ref := 1 }.ref + (2 : Count).toNat ≤ 0x7FFFFFFF := by decide

theorem test_witness_next_events :
    (0 = f0.timer.tac.toNat % 4 ∧ 1 = (timed 0 0 0 5).timer.tac.toNat % 4 ∧ 2 = (timed 0 0 0 6).timer.tac.toNat % 4 ∧
      3 = (timed 0 0 0 7).timer.tac.toNat % 4) ∧
    f0.odma.active = false ∧ (writeDmaReg 0xC0 f0).odma.active = true ∧ (writeDmaReg 0xC0 f0).odma.elapsed < 644 := by decide

theorem test_witness_horizon_law :
    15 < nextEvent .timer (timed 0 0xFF 0x42 5) ∧ 643 < nextEvent .dma (writeDmaReg 0xC0 f0) ∧ 7 < nextEvent .camera f0 ∧
    FieldRanges (timed 0 0xFF 0x42 5) ∧ FieldRanges (writeDmaReg 0xC0 f0) := by
  unfold FieldRanges; decide

theorem test_witness_regions :
    regionOf 0x3FFF = .rom0 ∧ regionOf 0x4000 = .romX ∧ regionOf 0x7FFF = .romX ∧ regionOf 0x8000 = .vram ∧
    regionOf 0x9FFF = .vram ∧ regionOf 0xA000 = .eram ∧ regionOf 0xBFFF = .eram ∧ regionOf 0xC000 = .wram ∧
    regionOf 0xDFFF = .wram ∧ regionOf 0xE000 = .echo ∧ regionOf 0xFDFF = .echo ∧ regionOf 0xFE00 = .oam ∧
    regionOf 0xFE9F = .oam ∧ regionOf 0xFEA0 = .unusable ∧ regionOf 0xFEFF = .unusable ∧ regionOf 0xFF00 = .io ∧
    regionOf 0xFF7F = .io ∧ regionOf 0xFF80 = .hram ∧ regionOf 0xFFFE = .hram ∧ regionOf 0xFFFF = .ie := by decide

/-- F0 with the PPU's mode set and the VRAM check as given. -/
def inMode (m : PpuMode) (strict block : Bool) : State := { f0 with
  params := { f0.params with strictVram := strict, blockWrites := block }
  ppu := { f0.ppu with view := { f0.ppu.view with mode := m } } }

theorem test_witness_reads_ram :
    ReadsBus (.rd8 0xCFFF) 0xCFFF ∧ ReadsBus (.rd8 0xD000) 0xD000 ∧ ReadsBus (.rdreg8 0xFF80) 0xFF80 ∧
    ¬ conflicts (current f0) 0xCFFF ∧ f0.family = .dmg ∧ cgb.family = .cgb ∧ ¬ conflicts (current cgb) 0xD000 ∧
    ((inMode .m3 true false).params.strictVram = true ∧ (current (inMode .m3 true false)).ppu.view.mode = .m3) ∧
    ¬ (f0.params.strictVram = true ∧ (current f0).ppu.view.mode = .m3) ∧
    (current (inMode .m2 false false)).ppu.view.mode = .m2 ∧ (current f0).ppu.view.mode = .m0 ∧
    CpuMay (inMode .m3 true false) ∧ ¬ conflicts (current (inMode .m3 true false)) 0x8000 ∧
    CpuMay (inMode .m2 false false) ∧ ¬ conflicts (current (inMode .m2 false false)) 0xFE9F := by decide

theorem test_witness_reads_rom :
    { f0 with bootEnabled := true }.bootEnabled = true ∧ f0.bootEnabled = false ∧ f0.mapper = .none ∧
    overlaid { f0 with bootEnabled := true } 0xFF = true ∧ overlaid { f0 with bootEnabled := true } 0x100 = false ∧
    1 ≤ f0.params.romBanks ∧ romCurr f0 < f0.params.romBanks ∧
    ReadsBus (.rd8 0x3FFF) 0x3FFF ∧ ¬ conflicts (current f0) 0x3FFF := by decide

theorem test_witness_reads_rom_mapper : ∀ m, f0.mapper ≠ .mbc6 m := fun _ h => Mapper.noConfusion h

/-- An MBC6 cartridge, and an OAM DMA under the bus conflict. -/
def busy : State := { f0 with
  params := { f0.params with oamDmaBusConflict := true }, odma := { f0.odma with active := true } }

theorem test_witness_reads_draw :
    (∃ m, { f0 with mapper := .mbc6 default }.mapper = .mbc6 m) ∧ CpuMay { f0 with mapper := .mbc6 default } ∧
    conflicts (current busy) 0xFEFF ∧ CpuMay busy ∧ ReadsBus (.rd8 0xFEFF) 0xFEFF :=
  ⟨⟨_, rfl⟩, by decide, by decide, by decide, by decide⟩

/-- HDMA5 in each of the three states its read tells apart. -/
def hdmaState (m : HdmaMode) (remaining : Nat) : State := { cgb with
  hdma := { cgb.hdma with mode := m, remaining := remaining } }

theorem test_witness_reads_registers :
    ReadsBus (.rdreg8 0xFF04) 0xFF04 ∧ cgb.family = .cgb ∧
    ((current (hdmaState .hblank 16)).hdma.mode ≠ .none ∧ CpuMay (hdmaState .hblank 16)) ∧
    ((current cgb).hdma.mode = .none ∧ (current cgb).hdma.remaining / 16 = 0) ∧
    ((current (hdmaState .none 16)).hdma.mode = .none ∧ (current (hdmaState .none 16)).hdma.remaining / 16 ≠ 0) := by decide

theorem test_witness_unclaimed :
    ReadsBus (.rdreg8 0xFF03) 0xFF03 ∧ WritesBus (.wrreg8 0xFF7F 3) 0xFF7F 3 ∧ ReadsBus (.rd8 0xFF10) 0xFF10 ∧
    ioRegOf f0 0xFF03 = .unrecognized ∧ ioRegOf f0 0xFF7F = .unrecognized ∧ ioRegOf cgb 0xFF7F = .unrecognized ∧
    ioRegOf cgb 0xFF72 = .unrecognized ∧ f0.family = .dmg ∧ f0.params.claimsDmg = [] ∧ CpuMay f0 ∧ CpuMay cgb := by decide

/-- Every collaborator supplied, and one address claimed for the camera. -/
def supplied : State := { cgb with params := { cgb.params with
  hasPpu := true, hasSound := true, hasSerial := true, hasCamera := true, hasJoypad := true
  claimsCgb := [(0xFF7F, .camera)] } }

theorem test_witness_collab :
    ioRegOf f0 0xFF00 = .collab .joypad ∧ ioRegOf f0 0xFF02 = .collab .serial ∧ ioRegOf f0 0xFF10 = .collab .sound ∧
    ioRegOf cgb 0xFF69 = .collab .ppu ∧ ioRegOf supplied 0xFF7F = .collab .camera ∧
    present f0 .joypad = false ∧ present f0 .serial = false ∧ present f0 .sound = false ∧ present f0 .ppu = false ∧
    present supplied .joypad = true ∧ present supplied .serial = true ∧ present supplied .sound = true ∧
    present supplied .ppu = true ∧ present supplied .camera = true ∧ CpuMay supplied := by decide

/-- R57: the ends of each owner's addresses; addresses without a row on either family, and on the DMG family. -/
theorem test_register_owners :
    ioRegOf cgb 0xFF01 = .collab .serial ∧ ioRegOf cgb 0xFF26 = .collab .sound ∧ ioRegOf f0 0xFF27 = .unrecognized ∧
    ioRegOf f0 0xFF30 = .collab .sound ∧ ioRegOf f0 0xFF3F = .collab .sound ∧ ioRegOf f0 0xFF40 = .collab .ppu ∧
    ioRegOf f0 0xFF45 = .collab .ppu ∧ ioRegOf f0 0xFF46 = .dma ∧ ioRegOf f0 0xFF47 = .collab .ppu ∧
    ioRegOf f0 0xFF4B = .collab .ppu ∧ ioRegOf cgb 0xFF6B = .collab .ppu ∧ ioRegOf f0 0xFF6B = .unrecognized ∧
    ioRegOf cgb 0xFF6C = .unrecognized ∧ ioRegOf cgb 0xFF03 = .unrecognized ∧ ioRegOf f0 0xFF70 = .unrecognized := by decide

/-- R57, R58, R176: on the DMG family a claim of an address of the CGB family alone, or of one the block has, is void. -/
def claiming : State := { f0 with params := { f0.params with
  hasSound := true, claimsDmg := [(0xFF7F, .sound), (0xFF4F, .sound), (0xFF04, .sound)] } }

theorem test_claims_on_dmg :
    ioRegOf claiming 0xFF7F = .collab .sound ∧ ioRegOf claiming 0xFF4F = .unrecognized ∧
    ioRegOf claiming 0xFF04 = .div ∧ claiming.family = .dmg ∧ RegisterOfCgb 0xFF4F :=
  ⟨by decide, by decide, by decide, by decide, .inr (.inl rfl)⟩

/-- R58: a sound handler that keeps bytes at 0xFF10, at 0xFF04 and twice at 0xFF7F keeps the owned ones, the later of two. -/
theorem test_kept_shadow :
    (keepShadow .sound [(0xFF7F, 1), (0xFF10, 2), (0xFF04, 3), (0xFF7F, 4)] claiming).ioShadow.cells =
      [(0x10, 2), (0x7F, 4)] := by decide

/-- Witnesses of the collaborators' register statements: owners, and what their handlers see of io_shadow. -/
theorem test_witness_shadow :
    OwnsIo claiming .sound 0xFF7F ∧ OwnsIo supplied .camera 0xFF7F ∧ OwnsIo supplied .joypad 0xFF00 ∧
    OwnsIo supplied .ppu 0xFF69 ∧ ¬ OwnsIo supplied .ppu 0xFF46 ∧
    ShadowSeen (current supplied) .camera (ownShadow .camera (current supplied)) :=
  ⟨by unfold OwnsIo; decide, by unfold OwnsIo; decide, by unfold OwnsIo; decide, by unfold OwnsIo; decide,
   by unfold OwnsIo; decide, shadowSeen_ownShadow _ _⟩

theorem test_witness_register_owners :
    ¬ RegisterOfBoth 0xFF03 ∧ ¬ RegisterOfCgb 0xFF72 ∧ ¬ RegisterOfBoth 0xFF7F ∧ ¬ RegisterOfCgb 0xFF7F ∧
    ¬ RegisterOfBoth 0xFF4D ∧ RegisterOfCgb 0xFF4D := by
  refine ⟨?_, ?_, ?_, ?_, ?_, ?_⟩ <;> (first | unfold RegisterOfBoth | unfold RegisterOfCgb) <;> decide

theorem test_witness_register_claims :
    (∀ p ∈ cgb.params.claimsCgb, p.1 ≠ 0xFF7F) ∧ (0xFF7F, Collab.camera) ∈ supplied.params.claimsCgb ∧
    (∀ p ∈ supplied.params.claimsCgb, p.1 = 0xFF7F → p.2 = .camera) := by decide

/-- A Camera cartridge with its RAM enabled, with and without a camera model. -/
def cameraCart (model : Bool) : State := { f0 with
  params := { f0.params with eramBanks := 1, hasCamera := model }, mapper := .camera { (default : BankRegs) with
    ramEnabled := true, ramBank := 0 } }

theorem test_witness_camera_window :
    CpuMay (cameraCart true) ∧ CpuMay (cameraCart false) ∧ 0 < (cameraCart true).params.eramBanks ∧
    (cameraCart true).params.hasCamera = true ∧ (cameraCart false).params.hasCamera = false ∧
    (cameraCart true).params.oamDmaBusConflict = false ∧ ReadsBus (.rd8 0xA000) 0xA000 ∧ WritesBus (.wr8 0xBFFF 1) 0xBFFF 1 := by
  decide

theorem test_witness_writes :
    WritesBus (.wr8 0xFF7F 1) 0xFF7F 1 ∧ WritesBus (.wrreg8 0xFFFF 1) 0xFFFF 1 ∧ WritesBus (.wr8 0xFF80 1) 0xFF80 1 := by
  decide

theorem test_witness_writes_ram :
    MemoryCanonical (current f0) ∧ WritesBus (.wr8 0xDFFF 1) 0xDFFF 1 ∧
    ¬ (f0.params.blockWrites = true ∧ f0.params.strictVram = true ∧ (current f0).ppu.view.mode = .m3) ∧
    ((inMode .m3 true true).params.blockWrites = true ∧ (inMode .m3 true true).params.strictVram = true ∧
      (current (inMode .m3 true true)).ppu.view.mode = .m3) ∧ CpuMay (inMode .m3 true true) := by
  unfold MemoryCanonical; decide

/-- Timer states for the DIV, TIMA and TAC writes: signal high, signal low, inside the reload window. -/
theorem test_witness_writes_timer :
    timerSignal (current (timed 8 0x10 0 5)).timer = true ∧ timerSignal (current (timed 7 0x10 0 5)).timer = false ∧
    (current f0).timer.reloadCd = 0 ∧
    (current { f0 with timer := { f0.timer with reloadCd := 2, irqCd := 2 } }).timer.reloadCd ≠ 0 ∧
    f0.params.timaWriteInReload = .cancel ∧
    { f0.params with timaWriteInReload := .overwritten }.timaWriteInReload = .overwritten ∧
    f0.params.tacGlitch = .fallingEdge ∧
    timerSignal { (current (timed 8 0x10 0 5)).timer with tac := (0x04 : Byte).extractLsb' 0 3 } = false ∧
    timerSignal { (current (timed 8 0x10 0 5)).timer with tac := (0x05 : Byte).extractLsb' 0 3 } = true ∧
    { f0.params with tacGlitch := .supplied }.tacGlitch = .supplied := by decide

theorem test_witness_echo :
    CpuMay f0 ∧ f0.params.oamDmaBusConflict = false ∧ 0xC000 ≤ (0xDDFF : Addr).toNat ∧ (0xDDFF : Addr).toNat ≤ 0xDDFF := by
  decide

theorem test_witness_timer_reload :
    (timed 0 0xFF 0x42 5).timer.tima = 0xFF ∧ (timed 0 0xFF 0x42 5).timer.tac.getLsbD 2 = true ∧
    (timed 0 0xFF 0x42 5).timer.sysClocks.toNat % timerPeriod (timed 0 0xFF 0x42 5).timer.tac = 0 ∧
    (timed 0 0xFF 0x42 5).timer.reloadCd = 0 ∧ (timed 0 0xFF 0x42 5).timer.irqCd = 0 ∧
    (timed 5 0xFE 0 5).timer.tima ≠ 0xFF ∧ (timed 5 0xFE 0 5).timer.reloadCd = 0 := by decide

theorem test_witness_oam_dma :
    f0.oam.wf = true ∧ 159 < min 160 ((644 - 4) / 4) ∧ 0xFE ≤ (0xFE : Byte).toNat ∧ (0xFD : Byte).toNat ≤ 0xFD := by decide

/-- An MBC2 cartridge with its RAM enabled, on a cartridge of the given RAM banks. -/
def mbc2Cart (banks : Nat) : State := { f0 with
  params := { f0.params with eramBanks := banks }
  mapper := .mbc2 { (default : BankRegs) with ramEnabled := true, ramBank := 0 } }

/-- An MBC3 cartridge with its RAM enabled, the clock register of the highest select in its window. -/
def clockCart : State :=
  let latched : Rtc := { Rtc.zero with days := 0x1FF, carry := true, halt := true }
  let regs : Mbc3 :=
    { ramEnabled := true, bank := 1, select := 0xC, latchArmed := true, running := .zero, latched := latched, since := 0 }
  { f0 with mapper := .mbc3 regs }

/-- Each form of a DMA source byte, at the boundaries of its region. -/
theorem test_witness_source_bytes :
    SourceByte { f0 with bootEnabled := true } 0x00FF ({ f0 with bootEnabled := true }.bootRom.read 0xFF) ∧
    SourceByte { f0 with bootEnabled := true } 0x3FFF (f0.rom.read 0x3FFF) ∧
    SourceByte f0 0x4000 (f0.rom.read 0x4000) ∧ SourceByte cgb 0x9FFF (cgb.vram.read 0x1FFF) ∧
    SourceByte { f0 with params := { f0.params with eramBanks := 1 } } 0xBFFF (f0.eram.read 0x1FFF) ∧
    SourceByte (mbc2Cart 1) 0xA000 (0xF0 ||| ((mbc2Cart 1).eram.read 0 &&& 0x0F)) ∧
    SourceByte f0 0xA000 0xFF ∧ SourceByte (mbc2Cart 0) 0xA000 0xFF ∧ SourceByte clockCart 0xBFFF 0xC1 ∧
    SourceByte f0 0xDFFF (f0.wram.read 0x1FFF) ∧ SourceByte f0 0xFDFF (f0.wram.read 0x1DFF) := by
  have hm : ∀ m, f0.mapper ≠ .mbc6 m := fun _ h => Mapper.noConfusion h
  refine ⟨?_, ?_, ?_, ?_, ?_, ?_, ?_, ?_, ?_, ?_, ?_⟩
  · exact .inl ⟨by decide, rfl, by decide, rfl⟩
  · exact .inr (.inl ⟨by decide, by decide, hm, by decide, by decide⟩)
  · exact .inr (.inr (.inl ⟨by decide, by decide, hm, by decide, by decide⟩))
  · exact .inr (.inr (.inr (.inl ⟨by decide, by decide, by decide⟩)))
  · exact .inr (.inr (.inr (.inr (.inl ⟨by decide, by decide, .inl ⟨0, .inl ⟨rfl, rfl⟩, by decide, by decide⟩⟩))))
  · exact .inr (.inr (.inr (.inr (.inl ⟨by decide, by decide, .inr (.inr (.inl ⟨_, rfl, rfl, by decide, by decide⟩))⟩))))
  · exact .inr (.inr (.inr (.inr (.inl ⟨by decide, by decide,
      .inr (.inr (.inr ⟨.inl ⟨0, .inl ⟨rfl, rfl⟩, by decide⟩, rfl⟩))⟩))))
  · exact .inr (.inr (.inr (.inr (.inl ⟨by decide, by decide,
      .inr (.inr (.inr ⟨.inr (.inl ⟨_, rfl, rfl, by decide⟩), rfl⟩))⟩))))
  · exact .inr (.inr (.inr (.inr (.inl ⟨by decide, by decide, .inr (.inl ⟨_, rfl, rfl, by decide⟩)⟩))))
  · exact .inr (.inr (.inr (.inr (.inr (.inl ⟨by decide, by decide, by decide⟩)))))
  · exact .inr (.inr (.inr (.inr (.inr (.inr ⟨by decide, by decide, by decide⟩)))))

theorem test_witness_hdma5 :
    WritesBus (.wrreg8 0xFF55 0x7F) 0xFF55 0x7F ∧ cgb.family = .cgb ∧ (current cgb).hdma.mode = .none ∧
    (0x7F : Byte).getLsbD 7 = false ∧ (0x80 : Byte).getLsbD 7 = true ∧
    (current { cgb with ppu := { cgb.ppu with view := { cgb.ppu.view with lcdOn := true } } }).ppu.view.lcdOn = true ∧
    (current (hdmaState .hblank 16)).hdma.mode = .hblank := by decide

theorem test_witness_copy_block :
    gdma.vram.wf = true ∧ 0xC000 ≤ gdma.hdma.src.toNat ∧ gdma.hdma.src.toNat + 15 ≤ 0xFDFF ∧
    (0x8000 ≤ { gdma with hdma := { gdma.hdma with src := 0x9FF0 } }.hdma.src.toNat ∧
      { gdma with hdma := { gdma.hdma with src := 0x9FF0 } }.hdma.src.toNat + 15 ≤ 0x9FFF) ∧
    0xFE00 ≤ { gdma with hdma := { gdma.hdma with src := 0xFFF8 } }.hdma.src.toNat := by decide

theorem test_witness_hblank_screen_off :
    WritesBus (.wrreg8 0xFF55 0x80) 0xFF55 0x80 ∧ cgb.family = .cgb ∧ (0x80 : Byte).getLsbD 7 = true ∧
    (0xFF : Byte).getLsbD 7 = true ∧ (current cgb).ppu.view.lcdOn = false := by decide

/-- DMAEXEC in two parts: through the preparation, and through the first of two blocks. -/
def twoBlocks (prep : Nat) : State := { gdma with hdma := { gdma.hdma with remaining := 32, prepLeft := prep } }

theorem test_witness_budgets :
    (twoBlocks 4).hdma.mode = .general ∧ (4 : Count).toNat = (twoBlocks 4).hdma.prepLeft ∧
    (5 : Count).toNat = (4 : Count).toNat + (1 : Count).toNat ∧
    (twoBlocks 0).hdma.prepLeft = 0 ∧ (32 : Count).toNat = gdmaBlockClocks (twoBlocks 0) ∧
    16 < (twoBlocks 0).hdma.remaining ∧ (33 : Count).toNat = (32 : Count).toNat + (1 : Count).toNat ∧
    (after (.dmaexec 4) (twoBlocks 4)).fault = none ∧ (after (.dmaexec 1) (after (.dmaexec 4) (twoBlocks 4))).fault = none ∧
    (after (.dmaexec 32) (twoBlocks 0)).fault = none ∧ (after (.dmaexec 1) (after (.dmaexec 32) (twoBlocks 0))).fault = none := by
  decide +kernel

/-- Blocks that cost nothing: the first part is then a DMAEXEC of no clocks. -/
theorem test_witness_budgets_free :
    (0 : Count).toNat = gdmaBlockClocks { twoBlocks 0 with params := { f0.params with gdmaBlockSingle := 0 } } ∧
    16 < (twoBlocks 0).hdma.remaining ∧ 1 ≤ (4 : Count).toNat ∧ (1 : Count).toNat = (0 : Count).toNat + (1 : Count).toNat := by
  decide

theorem test_witness_hblank :
    (hdmaState .hblank 16).hdma.mode = .hblank ∧ (hdmaState .hblank 16).hdma.lastLy ≠ some 5 ∧
    (hdmaState .hblank 16).hdma.remaining = 16 ∧ 16 < (hdmaState .hblank 32).hdma.remaining := by decide

/-- A supplied PPU in mode 3 whose `Next_PPU` runs out on this clock, on the CGB family. -/
def drawing (double half : Bool) : State := { cgb with
  params := { cgb.params with hasPpu := true }, doubleSpeed := double
  ppu := { view := { mode := .m3, ly := 5, lcdOn := true }, own := { core := [], wait := some 1 }, hblankIn := some 9
           halfClock := half }
  hdma := { cgb.hdma with mode := .hblank, remaining := 16 } }

theorem test_witness_ppu_clock :
    (drawing false false).ppu.view.lcdOn = true ∧ (drawing false false).ppu.view.mode ≠ .m0 ∧
    ppuWait (drawing false false) = some 1 ∧ f0.ppu.view.lcdOn = false ∧ ppuWait f0 ≠ some 1 ∧
    ((drawing true false).params.hasPpu = true ∧ (drawing true false).doubleSpeed = true ∧
      (drawing true false).ppu.halfClock = false) ∧
    (drawing false true).doubleSpeed = false ∧ f0.params.hasPpu = false ∧ f0.hdma.mode ≠ .hblank := by decide

/-- R436: two reference clocks of double speed are due for one PPU clock, less the half already passed. -/
theorem test_ppu_next : nextEvent .ppu (drawing true false) = 2 ∧ nextEvent .ppu (drawing true true) = 1 ∧
    nextEvent .ppu (drawing false false) = 1 := by decide

theorem test_witness_dmaexec :
    f0.hdma.mode ≠ .general ∧
    (1 = max (0 : Count).toNat 1 ∧ 4 = max (4 : Count).toNat 1 ∧
      4 ≤ { gdma with hdma := { gdma.hdma with prepLeft := 4 } }.hdma.prepLeft) ∧
    gdma.hdma.prepLeft = 0 ∧ (32 : Count).toNat ≤ gdmaBlockClocks gdma ∧ gdma.ref + gdmaBlockClocks gdma ≤ 0x7FFFFFFF ∧
    gdma.hdma.remaining ≤ 16 ∧ 16 < { gdma with hdma := { gdma.hdma with remaining := 32 } }.hdma.remaining := by decide

/-- Halted, requested and in STOP, for the interrupt check. -/
def waiting (m : HaltMode) (ime : Bool) (iff ie : Byte) : State := { f0 with
  haltMode := m, ime := ime, ifReg := iff, ieReg := ie, cpuSp := 0xC002 }

theorem test_witness_irqchk :
    (f0.haltMode ≠ .stop ∧ (current f0).ifReg &&& f0.ieReg &&& 0x1F = 0) ∧ (f0.haltMode = .run ∧ f0.ime = false) ∧
    ((waiting .halt false 1 1).haltMode = .halt ∧ (waiting .halt false 1 1).ime = false ∧
      (current (waiting .halt false 1 1)).ifReg &&& (waiting .halt false 1 1).ieReg &&& 0x1F ≠ 0 ∧
      (waiting .halt false 1 1).ref + 4 ≤ 0x7FFFFFFF ∧ CpuMay (waiting .halt false 1 1)) ∧
    (stopExit (current (waiting .stop false 0x10 0)) = true ∧ stopExit (current (waiting .stop false 0 0)) = false) ∧
    (waiting .stop false 0 0).params.stopExit = .joypadPending := by
  decide

theorem test_witness_acknowledge :
    CpuMay (waiting .halt true 0x10 0x1F) ∧ (waiting .halt true 0x10 0x1F).haltMode ≠ .stop ∧
    (waiting .halt true 0x10 0x1F).ime = true ∧
    (current (waiting .halt true 0x10 0x1F)).ifReg &&& (waiting .halt true 0x10 0x1F).ieReg &&& 0x1F ≠ 0 ∧
    (waiting .halt true 0x10 0x1F).ref + 20 + (waiting .halt true 0x10 0x1F).params.haltWakeExtra ≤ 0x7FFFFFFF ∧
    (waiting .run true 0x10 0x1F).haltMode = .run := by decide

theorem test_witness_acknowledge_jump :
    Quiet (waiting .run true 0x10 0x1F) ∧ MemoryCanonical (current (waiting .run true 0x10 0x1F)) ∧
    (waiting .run true 0x10 0x1F).ifReg.getLsbD 4 = true ∧ (waiting .run true 0x10 0x1F).ieReg.getLsbD 4 = true ∧
    (∀ j, j < 4 → ¬ ((waiting .run true 0x10 0x1F).ifReg.getLsbD j = true ∧
      (waiting .run true 0x10 0x1F).ieReg.getLsbD j = true)) ∧
    0xC002 ≤ (waiting .run true 0x10 0x1F).cpuSp.toNat ∧ (waiting .run true 0x10 0x1F).cpuSp.toNat ≤ 0xE000 ∧
    0xFF82 ≤ { waiting .run true 0x10 0x1F with cpuSp := 0xFF82 }.cpuSp.toNat := by
  unfold Quiet MemoryCanonical; decide

/-- A request with the stack where a push reaches IE or IF, the PC such that it clears the request or not. -/
def pushing (sp pc : Addr) : State := { waiting .halt true 0x04 0x1F with cpuSp := sp, cpuPc := pc }

theorem test_witness_acknowledge_register :
    Quiet (pushing 0 0x0012) ∧ CpuMay (pushing 0 0x0012) ∧
    (pushing 0 0x0012).ifReg &&& (pushing 0 0x0012).ieReg &&& 0x1F ≠ 0 ∧
    ((pushing 0 0x0012).ifReg &&& (pushing 0 0x0012).cpuPc.extractLsb' 8 8 &&& 0x1F = 0) ∧
    ((pushing 1 0x0004).ifReg.getLsbD 2 = true ∧ ((pushing 1 0x0004).cpuPc.extractLsb' 0 8 : Byte).getLsbD 2 = true) ∧
    ioRegOf (pushing 0xFF10 0x0100) 0xFF0E = .unrecognized ∧
    ((pushing 0xFF10 0x0100).ifReg.extractLsb' 5 3 ++ (pushing 0xFF10 0x0100).cpuPc.extractLsb' 8 5 : Byte).getLsbD 0 = true ∧
    ((pushing 0xFF11 0x0100).ifReg.extractLsb' 5 3 ++ (pushing 0xFF11 0x0100).cpuPc.extractLsb' 0 5 : Byte) &&&
      (pushing 0xFF11 0x0100).ieReg &&& 0x1F = 0 := by
  unfold Quiet; decide

theorem test_witness_mapperset_mbc6 :
    (∃ a ∈ (after .mappersetMbc6 f0).anomalies.drop (after .mappersetMbc6 f0).runStart, a.kind = .unsupportedMbc6) ∧
    (∀ a ∈ f0.anomalies.drop f0.runStart, a.kind ≠ .unsupportedMbc6) ∧
    { f0.params with mapperSupplied := true }.mapperSupplied = true ∧ f0.params.mapperSupplied = false := by decide

/-- MBC1, MBC3 and MBC5 with their RAM enabled, on a cartridge of four ROM banks and one RAM bank. -/
def mapped (m : Mapper) : State := { f0 with
  params := { f0.params with romBanks := 4, eramBanks := 1 }, mapper := m }

/-- MBC1 as MAPPERSET binds it, RAM enabled as given. -/
def mbc1 (on : Bool) : Mbc1 := { ramEnabled := on, bank := 1, upper := 0, mode := false }

/-- MBC3 with the clock's seconds selected and the latch armed. -/
def mbc3 (on : Bool) : Mbc3 := { ramEnabled := on, bank := 1, select := 8, latchArmed := true, running := .zero, latched := .zero, since := 0 }

/-- MBC5, RAM enabled as given. -/
def mbc5 (on : Bool) : Mbc5 := { ramEnabled := on, bank := 1, ramBank := 0 }

theorem test_witness_bank_select :
    CpuMay (mapped (.mbc1 (mbc1 true))) ∧ (mbc1 true).upper = 0 ∧ 0x2000 ≤ (0x3FFF : Addr).toNat ∧
    (0x3FFF : Addr).toNat ≤ 0x3FFF ∧ CpuMay (mapped (.mbc3 (mbc3 true))) ∧ CpuMay (mapped (.mbc5 (mbc5 true))) ∧
    (0x2FFF : Addr).toNat ≤ 0x2FFF ∧ 0x3000 ≤ (0x3000 : Addr).toNat := by decide

/-- The ranges of the bank registers at both ends, and mapper None. -/
theorem test_witness_bank_registers :
    CpuMay (mapped .none) ∧ (mapped .none).mapper = .none ∧ (0x1FFF : Addr).toNat ≤ 0x1FFF ∧
    0x4000 ≤ (0x4000 : Addr).toNat ∧ (0x5FFF : Addr).toNat ≤ 0x5FFF ∧ 0x6000 ≤ (0x6000 : Addr).toNat ∧
    (0x7FFF : Addr).toNat ≤ 0x7FFF := by decide

/-- R451: 0x0A and 0xFA enable RAM, 0x0B does not; R453: mapper None ignores the write. -/
theorem test_ram_enable :
    (after (.wr8 0x1FFF 0xFA) (mapped (.mbc1 (mbc1 false)))).mapper = .mbc1 (mbc1 true) ∧
    (after (.wr8 0x0000 0x0B) (mapped (.mbc5 (mbc5 true)))).mapper = .mbc5 (mbc5 false) ∧
    (after (.wr8 0x0000 0x0A) (mapped .none)).mapper = .none := by decide

theorem test_witness_eram :
    CpuMay (mapped (.mbc1 (mbc1 true))) ∧ MemoryCanonical (current (mapped (.mbc1 (mbc1 true)))) ∧
    (mapped .none).params.oamDmaBusConflict = false ∧ 0 < (mapped .none).params.eramBanks ∧
    (mbc5 true).ramBank.toNat < (mapped (.mbc5 (mbc5 true))).params.eramBanks ∧
    { (default : BankRegs) with ramEnabled := true, ramBank := 0 }.ramBank < (mapped .none).params.eramBanks ∧
    (mbc3 false).ramEnabled = false ∧ 0xA000 ≤ (0xBFFF : Addr).toNat ∧ (0xBFFF : Addr).toNat ≤ 0xBFFF := by
  unfold MemoryCanonical; decide

/-- Each default layout with its RAM selected, and a bank the cartridge does not have. -/
theorem test_witness_eram_selected :
    RamSelected .none 0 ∧ RamSelected (.mbc1 (mbc1 true)) 0 ∧ RamSelected (.mbc3 { mbc3 true with select := 3 }) 3 ∧
    RamSelected (.mbc5 (mbc5 true)) 0 ∧ (mapped (.mbc3 { mbc3 true with select := 3 })).params.eramBanks ≤ 3 ∧
    RamSelected (.mmm01 { (default : BankRegs) with ramEnabled := true }) 0 ∧
    RamSelected (.rumble { (default : BankRegs) with ramEnabled := true }) 0 :=
  ⟨.inl ⟨rfl, rfl⟩, .inr (.inl ⟨_, rfl, rfl, rfl⟩), .inr (.inr (.inl ⟨_, rfl, rfl, by decide, rfl⟩)),
    .inr (.inr (.inr (.inl ⟨_, rfl, rfl, rfl⟩))), by decide, .inr (.inr (.inr (.inr ⟨_, .inl rfl, rfl, rfl⟩))),
    .inr (.inr (.inr (.inr ⟨_, .inr rfl, rfl, rfl⟩)))⟩

/-- RAM disabled on every kind whose window it gates, an MBC3 select without a meaning at both ends of its two ranges, and
an MBC2 bank the cartridge does not have. -/
theorem test_witness_eram_disabled :
    RamDisabled (.mbc1 (mbc1 false)) ∧ RamDisabled (.mbc3 (mbc3 false)) ∧ RamDisabled (.mbc5 (mbc5 false)) ∧
    RamDisabled (.mbc7 default) ∧ RamDisabled (.mbc2 default) ∧ RamDisabled (.mmm01 default) ∧
    RamDisabled (.rumble default) ∧ RamDisabled (.camera default) ∧ RamDisabled (.supplied .mbc6 default) ∧
    RamDisabled (.mbc3 { mbc3 true with select := 4 }) ∧ RamDisabled (.mbc3 { mbc3 true with select := 7 }) ∧
    RamDisabled (.mbc3 { mbc3 true with select := 0xD }) ∧
    (mbc2Cart 0).params.eramBanks ≤ ({ (default : BankRegs) with ramEnabled := true, ramBank := 0 } : BankRegs).ramBank :=
  ⟨.inl ⟨_, rfl, rfl⟩, .inr (.inl ⟨_, rfl, rfl⟩), .inr (.inr (.inr (.inl ⟨_, rfl, rfl⟩))),
    .inr (.inr (.inr (.inr (.inl ⟨_, rfl, rfl⟩)))), .inr (.inr (.inr (.inr (.inr ⟨_, .inl rfl, rfl⟩)))),
    .inr (.inr (.inr (.inr (.inr ⟨_, .inr (.inl rfl), rfl⟩)))),
    .inr (.inr (.inr (.inr (.inr ⟨_, .inr (.inr (.inl rfl)), rfl⟩)))),
    .inr (.inr (.inr (.inr (.inr ⟨_, .inr (.inr (.inr (.inl rfl))), rfl⟩)))),
    .inr (.inr (.inr (.inr (.inr ⟨_, .inr (.inr (.inr (.inr ⟨_, rfl⟩))), rfl⟩)))),
    .inr (.inr (.inl ⟨_, rfl, .inl (by decide)⟩)), .inr (.inr (.inl ⟨_, rfl, .inl (by decide)⟩)),
    .inr (.inr (.inl ⟨_, rfl, .inr (by decide)⟩)), by decide⟩

/-- R96, R105, R450: with RAM disabled a supplied mapper and the Camera's window read 0xFF and ignore a write. -/
theorem test_window_disabled :
    windowRead (mapped (.supplied .camera default)) 0xA000 = (0xFF, mapped (.supplied .camera default)) ∧
    windowWrite (mapped (.camera default)) 0xA000 1 = mapped (.camera default) := ⟨rfl, rfl⟩

theorem test_witness_eram_bounds : CounterBounds (mapped (.mbc1 (mbc1 true))) :=
  ⟨by decide, fun sub => by cases sub <;> decide⟩

theorem test_witness_rtc :
    CpuMay (mapped (.mbc3 (mbc3 true))) ∧ (mapped (.mbc3 (mbc3 true))).params.rtcSource = .emulated ∧
    { (mapped (.mbc3 (mbc3 true))).params with rtcSource := .host }.rtcSource = .host ∧ (mbc3 true).latchArmed = true ∧
    (0x02 : Byte) ≠ 0x01 ∧ { mbc3 true with latchArmed := false }.latchArmed = false ∧
    0x6000 ≤ (0x7FFF : Addr).toNat ∧ (0x7FFF : Addr).toNat ≤ 0x7FFF := by decide

/-- Each clock register in its window: the lowest and the highest select, and one between. -/
theorem test_witness_clock_bytes :
    ClockByte (.mbc3 (mbc3 true)) 0 ∧ ClockByte clockCart.mapper 0xC1 ∧ ClockByte (.mbc3 { mbc3 true with select := 0xB }) 0 ∧
    CpuMay clockCart ∧ ¬ conflicts (current clockCart) 0xBFFF :=
  ⟨⟨_, rfl, rfl, by decide⟩, ⟨_, rfl, rfl, by decide⟩, ⟨_, rfl, rfl, by decide⟩, by decide, by decide⟩

/-- The clock register that is written, at both ends of the selects; a running clock in its ranges and a halted one. -/
theorem test_witness_clock_writes :
    (mbc3 true).ramEnabled = true ∧ 0x8 ≤ (mbc3 true).select.toNat ∧ { mbc3 true with select := 0xC }.select.toNat ≤ 0xC ∧
    f0.params.rtcSource = .emulated ∧ (mbc3 true).running.halt = false ∧ (mbc3 true).running.seconds.toNat < 60 ∧
    { Rtc.zero with halt := true }.halt = true := by decide

/-- One second after 511 days, 23:59:59 every register is 0 and the carry is set. -/
theorem test_clock_carry :
    Rtc.tick { seconds := 59, minutes := 59, hours := 23, days := 511, carry := false, halt := false } =
      { Rtc.zero with carry := true } := by decide

/-- An MBC7 with its RAM enabled; its window with and without the pins' address. -/
theorem test_witness_mbc7_window :
    CpuMay (mapped (.mbc7 { (default : Mbc7) with banks := { (default : BankRegs) with ramEnabled := true } })) ∧
    { (default : Mbc7) with banks := { (default : BankRegs) with ramEnabled := true } }.banks.ramEnabled = true ∧
    0xA000 ≤ (0xA080 : Addr).toNat ∧ (0xA081 : Addr) ≠ 0xA080 ∧ ¬ conflicts (current (mapped (.mbc7 default))) 0xA080 := by
  decide

/-- An EEPROM side: shifted out with a write pending, or idle. -/
def eeprom (p : EepromPhase) (w : Option Nat) : Eeprom :=
  { phase := p, cs := false, sk := false, code := none, address := 3, pending := w, core := [] }

theorem test_witness_eeprom :
    ((eeprom .done (some 7)).cs = false ∧ (eeprom .done (some 7)).phase = .done ∧ (eeprom .done (some 7)).pending = some 7) ∧
    ((eeprom .idle none).sk = false ∧ (eeprom .idle none).phase = .idle) ∧ (eeprom .done none).pending = none := by decide

/-- The clauses of a write to 0xA080 that name the pins: the stored levels chosen to agree with them. -/
theorem test_witness_eeprom_pins :
    { eeprom .done (some 7) with sk := (Config.mbc7Pins 0).sk }.sk = (Config.mbc7Pins 0).sk ∧
    { eeprom .idle none with cs := (Config.mbc7Pins 0).cs, sk := (Config.mbc7Pins 0).sk }.cs = (Config.mbc7Pins 0).cs :=
  ⟨rfl, rfl⟩

/-- A serial model whose transition is due. -/
def serialDue : State := { f0 with params := { f0.params with hasSerial := true }, serial := { core := [], wait := some 1 } }

/-- A camera model whose transition is due, on a cartridge of one RAM bank. -/
def cameraDue : State := { f0 with
  params := { f0.params with hasCamera := true, eramBanks := 1 }
  camera := { f0.camera with own := { core := [], wait := some 1 } } }

theorem test_witness_serial :
    serialDue.params.hasSerial = true ∧ serialDue.serial.wait = some 1 ∧ serialDue.params.serialPartner = false ∧
    { serialDue.params with serialPartner := true }.serialPartner = true ∧
    { serialDue with serial := { core := [], wait := some 2 } }.serial.wait ≠ some 1 := by decide

theorem test_witness_camera :
    cameraDue.params.hasCamera = true ∧ cameraDue.camera.own.wait = some 1 ∧ cameraDue.eram.wf = true ∧
    { cameraDue with camera := { cameraDue.camera with own := { core := [], wait := none } } }.camera.own.wait ≠ some 1 := by
  decide

theorem test_witness_cpuset :
    ¬ (f0.params.speedSwitch = .onStop ∧ f0.family = .cgb ∧ f0.key1Prepare = true) ∧
    ({ cgb with key1Prepare := true }.params.speedSwitch = .onStop ∧ { cgb with key1Prepare := true }.family = .cgb ∧
      { cgb with key1Prepare := true }.ref + { cgb with key1Prepare := true }.params.speedSwitchClocks ≤ 0x7FFFFFFF) := by decide

/-- Halted inside a burst of 14 clocks (TV-SCH-6), and one with a stall pending (TV-DMA-11). -/
def halted : State := { waiting .halt false 0 0 with horizon := 14 }

theorem test_witness_burst :
    ({ f0 with hdma := { f0.hdma with stall := 32 } }.hdma.mode ≠ .general ∧
      0 < { f0 with hdma := { f0.hdma with stall := 32 } }.hdma.stall ∧
      { f0 with hdma := { f0.hdma with stall := 32 } }.ref + { f0 with hdma := { f0.hdma with stall := 32 } }.hdma.stall ≤ 0x7FFFFFFF) ∧
    (CpuMay halted ∧ halted.hdma.stall = 0 ∧ halted.haltMode = .halt ∧
      (current halted).ifReg &&& halted.ieReg &&& 0x1F = 0 ∧ halted.ref - halted.burstStart < halted.horizon ∧
      1 ≤ halted.params.haltGranule ∧ halted.burstStart ≤ halted.ref ∧
      halted.ref + (halted.burstStart + halted.horizon - halted.ref + halted.params.haltGranule) ≤ 0x7FFFFFFF) := by decide

/-- A burst of a segment of 4 clocks, and one whose PPU is overdue. -/
theorem test_witness_burst_runs :
    (({ f0 with segTarget := 4 }.ref : Int) < { f0 with segTarget := 4 }.segTarget) ∧ Ready { f0 with segTarget := 4 } ∧
    ∃ h, exec .horizon { f0 with segTarget := 4 } =
      .next { current { f0 with segTarget := 4 } with horizon := h, response := some (.clocks h) } ∧
      4 = min h ({ f0 with segTarget := 4 }.segTarget - { f0 with segTarget := 4 }.ref).toNat :=
  ⟨by decide, by decide, _, rfl, by decide⟩

/-- TV-SCH-1's last burst: one CPU step of 12 clocks in a segment of 4 overruns it and ends the burst. -/
theorem test_burst_overruns :
    (burst { f0 with segTarget := 4, cpuTape := [[0x3000000C], [0x3000000C]] }).ref = 12 ∧
    (burst { f0 with segTarget := 4, cpuTape := [[0x3000000C], [0x3000000C]] }).cpuTape = [[0x3000000C]] ∧
    (burst { overduePpu with segTarget := 4 }).fault = some .nextevt := by decide

/-- TV-SCH-2: the debt covers the budget, and the boundary where it just does. -/
theorem test_witness_runfor_debt :
    (((100 : Count).toNat : Int) - { f0 with debt := 150 }.debt ≤ ({ f0 with debt := 150 }.ref : Int)) ∧
    (((100 : Count).toNat : Int) - { f0 with debt := 100 }.debt ≤ ({ f0 with debt := 100 }.ref : Int)) := by decide

theorem test_witness_runfor_bounds : CounterBounds { f0 with debt := 150 } :=
  ⟨by decide, fun sub => by cases sub <;> decide⟩

theorem test_witness_runfor_target :
    ∃ t, exec (.runfor 4) { f0 with cpuTape := [[0x3000000C]] } = .next t ∧ t.fault = none := ⟨_, rfl, by decide⟩

/-- The premises of the invariants: F0 meets them (test_fixture_sound), and its step answers a next state. -/
theorem test_witness_invariants : ∃ t, step (f0.withFetchWord 32 0x30000010) = .next t ∧ t.ref = 16 := ⟨_, rfl, by decide⟩

theorem test_witness_invariants_bounds : CounterBounds (f0.withFetchWord 32 0x30000010) :=
  ⟨by decide, fun sub => by cases sub <;> decide⟩

end Sys2Proof.Tests
end

section
/-! SUPPORT. What every step keeps (R33, R34, R41, R46-R49): the invariants carry over each operation of the block, in the
order of the model's own operations. -/

namespace Sys2Proof.Machine

open Sys2Proof.Safety

/-! ## The relation -/

/-- The four invariants of the state carry over from `s` to `t`. -/
structure KeepsInvariants (s t : State) : Prop where
  counters : CounterBounds s → CounterBounds t
  memory : MemoryCanonical s → MemoryCanonical t
  ranges : FieldRanges s → FieldRanges t
  dispatch : DispatchSelected s → DispatchSelected t

/-- What every operation but POWERON's does to the invariants: they carry over, the family and the renderer stay, and the
boot ROM is not enabled again. -/
structure Upholds (s t : State) : Prop extends KeepsInvariants s t where
  family : t.family = s.family
  renderer : t.renderer = s.renderer
  boot : t.bootEnabled = true → s.bootEnabled = true

theorem KeepsInvariants.trans {s t u : State} (h1 : KeepsInvariants s t) (h2 : KeepsInvariants t u) :
    KeepsInvariants s u where
  counters h := h2.counters (h1.counters h)
  memory h := h2.memory (h1.memory h)
  ranges h := h2.ranges (h1.ranges h)
  dispatch h := h2.dispatch (h1.dispatch h)

theorem Upholds.refl (s : State) : Upholds s s := ⟨⟨id, id, id, id⟩, rfl, rfl, id⟩

theorem Upholds.trans {s t u : State} (h1 : Upholds s t) (h2 : Upholds t u) : Upholds s u where
  toKeepsInvariants := h1.toKeepsInvariants.trans h2.toKeepsInvariants
  family := h2.family.trans h1.family
  renderer := h2.renderer.trans h1.renderer
  boot h := h1.boot (h2.boot h)

/-- The state with every field cleared that neither an invariant nor the console's selection speaks of. -/
def watched (s : State) : State :=
  { s with
    params := initialParams, segTarget := 0, debt := 0, burstStart := 0, horizon := 0, phase := .idle, epoch := 0
    breakFlag := false, doubleSpeed := false, key1Prepare := false, ieReg := 0, ifReg := 0, ime := false
    haltMode := .run, cpuPc := 0, cpuSp := 0, vbk := 0, svbk := 0, mapper := .none, cartRtc := .zero, ppu := idlePpu
    sound := idleCore, serial := idleCore, camera := { own := idleCore, frame := [] }, joypad := [], fault := none
    anomalies := [], runStart := 0, refused := false, inputs := [], response := none, cpuTape := [], cpuCore := []
    cpuReplies := [], draws := 0 }

/-- An operation that leaves the watched fields alone upholds the invariants. -/
theorem upholds_of_watched {s t : State} (h : watched t = watched s) : Upholds s t where
  counters := (congrArg CounterBounds h).mpr
  memory := (congrArg MemoryCanonical h).mpr
  ranges := (congrArg FieldRanges h).mpr
  dispatch := (congrArg DispatchSelected h).mpr
  family := (congrArg State.family h :)
  renderer := (congrArg State.renderer h :)
  boot := (congrArg (fun u : State => u.bootEnabled = true) h).mp

/-- So does one whose frame names no watched field. -/
theorem upholds_of_frame {s t u : State} (h : t = u) (hu : watched u = watched s) : Upholds s t :=
  upholds_of_watched (h ▸ hu)

/-! ## Updates of one watched field -/

theorem eram_upholds {s : State} {m : Mem} (h : s.eram.wf = true → m.wf = true) : Upholds s { s with eram := m } :=
  ⟨⟨id, fun ⟨h1, h2, hs⟩ => ⟨h1, h h2, hs⟩, id, id⟩, rfl, rfl, id⟩

theorem vram_upholds {s : State} {m : Mem} (h : s.vram.wf = true → m.wf = true) : Upholds s { s with vram := m } :=
  ⟨⟨id, fun ⟨h1, h2, h3, hs⟩ => ⟨h1, h2, h h3, hs⟩, id, id⟩, rfl, rfl, id⟩

theorem wram_upholds {s : State} {m : Mem} (h : s.wram.wf = true → m.wf = true) : Upholds s { s with wram := m } :=
  ⟨⟨id, fun ⟨h1, h2, h3, h4, hs⟩ => ⟨h1, h2, h3, h h4, hs⟩, id, id⟩, rfl, rfl, id⟩

theorem oam_upholds {s : State} {m : Mem} (h : s.oam.wf = true → m.wf = true) : Upholds s { s with oam := m } :=
  ⟨⟨id, fun ⟨h1, h2, h3, h4, h5, hs⟩ => ⟨h1, h2, h3, h4, h h5, hs⟩, id, id⟩, rfl, rfl, id⟩

theorem hram_upholds {s : State} {m : Mem} (h : s.hram.wf = true → m.wf = true) : Upholds s { s with hram := m } :=
  ⟨⟨id, fun ⟨h1, h2, h3, h4, h5, h6, hs⟩ => ⟨h1, h2, h3, h4, h5, h h6, hs⟩, id, id⟩, rfl, rfl, id⟩

theorem ioShadow_upholds {s : State} {m : Mem} (h : s.ioShadow.wf = true → m.wf = true) :
    Upholds s { s with ioShadow := m } :=
  ⟨⟨id, fun ⟨h1, h2, h3, h4, h5, h6, h7, hs⟩ => ⟨h1, h2, h3, h4, h5, h6, h h7, hs⟩, id, id⟩, rfl, rfl, id⟩

/-- The timer's share of the field ranges (R46). -/
def TimerRanges (t : Timer) : Prop := t.reloadCd ≤ 4 ∧ t.irqCd ≤ 4

/-- The OAM DMA's share (R47). -/
def OdmaRanges (o : Odma) : Prop :=
  o.copied ≤ 160 ∧ o.elapsed ≤ odmaClocks ∧
    (o.active = true → o.elapsed < odmaClocks ∧ o.copied = odmaTarget o.elapsed)

/-- The share of general and HBlank DMA (R48). -/
def HdmaRanges (h : Hdma) : Prop := h.remaining ≤ 2048 ∧ h.remaining % 16 = 0 ∧ h.copyLeft = 0

theorem fieldRanges_iff (s : State) :
    FieldRanges s ↔ TimerRanges s.timer ∧ OdmaRanges s.odma ∧ HdmaRanges s.hdma := by
  simp only [FieldRanges, TimerRanges, OdmaRanges, HdmaRanges, and_assoc]

theorem timer_upholds {s : State} {t : Timer} (h : TimerRanges s.timer → TimerRanges t) :
    Upholds s { s with timer := t } where
  counters := id
  memory := id
  ranges hr := (fieldRanges_iff _).2 (((fieldRanges_iff s).1 hr).imp_left h)
  dispatch := id
  family := rfl
  renderer := rfl
  boot := id

theorem odma_upholds {s : State} {o : Odma} (h : OdmaRanges s.odma → OdmaRanges o) :
    Upholds s { s with odma := o } where
  counters := id
  memory := id
  ranges hr := (fieldRanges_iff _).2 (((fieldRanges_iff s).1 hr).imp_right (And.imp_left h))
  dispatch := id
  family := rfl
  renderer := rfl
  boot := id

theorem hdma_upholds {s : State} {d : Hdma} (h : HdmaRanges s.hdma → HdmaRanges d) :
    Upholds s { s with hdma := d } where
  counters := id
  memory := id
  ranges hr := (fieldRanges_iff _).2 (((fieldRanges_iff s).1 hr).imp_right (And.imp_right h))
  dispatch := id
  family := rfl
  renderer := rfl
  boot := id

theorem dma_upholds {s : State} {o : Odma} {d : Hdma} (ho : OdmaRanges s.odma → OdmaRanges o)
    (hd : HdmaRanges s.hdma → HdmaRanges d) : Upholds s { s with odma := o, hdma := d } :=
  (odma_upholds ho).trans (hdma_upholds hd)

theorem drawByte_upholds (s : State) : Upholds s (drawByte s).2 := upholds_of_watched rfl

theorem drawAddr_upholds (s : State) : Upholds s (drawAddr s).2 := upholds_of_watched rfl

/-- A counter may be set to any clock that has passed. -/
theorem setLast_upholds (sub : Subsystem) {r : Nat} {s : State} (hr : r ≤ s.ref) : Upholds s (setLast sub r s) where
  counters := fun ⟨hc, hl⟩ => ⟨hc, fun b => by
    simp only [setLast_last, lasts_get_set, setLast_keeps]
    split
    · exact hr
    · exact hl b⟩
  memory := id
  ranges := id
  dispatch := id
  family := rfl
  renderer := rfl
  boot := id

/-- Disabling the boot ROM selects the dispatch set again (R177). -/
theorem writeBoot_upholds (s : State) : Upholds s (writeBoot s) := ⟨⟨id, id, id, fun _ => rfl⟩, rfl, rfl, nofun⟩

/-! ## Faults, the clock, the guards -/

theorem raise_upholds (f : Fault) (s : State) : Upholds s (raise f s) :=
  upholds_of_frame (raise_frame f s) rfl

theorem respond_upholds (r : Response) (s : State) : Upholds s (respond r s) :=
  upholds_of_frame (respond_frame r s) rfl

theorem logOnce_upholds (k : AnomalyKind) (s : State) : Upholds s (logOnce k s) :=
  upholds_of_frame (logOnce_frame k s) rfl

/-- The clock only rises, and stops at its bound (R241). -/
theorem addClock_upholds (n : Nat) (s : State) : Upholds s (addClock n s) := by
  by_cases h : s.ref + n ≤ inf
  · rw [addClock_room h]
    exact ⟨⟨fun ⟨_, hl⟩ => ⟨h, fun sub => (hl sub).trans (Nat.le_add_right _ _)⟩, id, id, id⟩, rfl, rfl, id⟩
  · rw [addClock_full (Nat.lt_of_not_le h)]
    exact raise_upholds _ s

theorem unlessFaulted_upholds {f : State → State} (s : State) (h : ∀ u, Upholds u (f u)) :
    Upholds s (unlessFaulted s f) := by
  unfold unlessFaulted
  split
  · exact h s
  · exact Upholds.refl s

theorem unlessGdma_upholds {f : State → State} (s : State) (h : ∀ u, Upholds u (f u)) :
    Upholds s (unlessGdma f s) := by
  unfold unlessGdma
  split
  · exact raise_upholds _ s
  · exact h s
  · exact h s

theorem command_upholds {f : State → State} (s : State) (h : ∀ u, Upholds u (f u)) : Upholds s (command f s) :=
  Upholds.trans (upholds_of_watched (by rfl)) (unlessFaulted_upholds (begun s) h)

/-- A sequence of operations upholds what each of them upholds. -/
theorem foldl_upholds {α : Type} {f : State → α → State} (h : ∀ u x, Upholds u (f u x)) (l : List α)
    (s : State) : Upholds s (l.foldl f s) := by
  induction l generalizing s with
  | nil => exact Upholds.refl s
  | cons x l ih => exact (h s x).trans (ih _)

/-! ## The timer -/

theorem incTima_ranges {t : Timer} (h : TimerRanges t) : TimerRanges (incTima t) := by
  unfold incTima
  split
  · exact ⟨Nat.le_refl 4, Nat.le_refl 4⟩
  · exact h

theorem stepReload_ranges {t : Timer} (h : TimerRanges t) : TimerRanges (stepReload t) := by
  unfold stepReload
  split
  · exact h
  · exact ⟨(Nat.sub_le _ _).trans h.1, h.2⟩

theorem stepIrqCd_ranges {t : Timer} (h : TimerRanges t) : TimerRanges (stepIrqCd t) := by
  unfold stepIrqCd
  split
  · exact h
  · exact ⟨h.1, (Nat.sub_le _ _).trans h.2⟩

theorem stepDivider_ranges {t : Timer} (h : TimerRanges t) : TimerRanges (stepDivider t) := by
  unfold stepDivider
  dsimp only
  split
  · exact incTima_ranges h
  · exact h

theorem tickTimer_upholds (s : State) : Upholds s (tickTimer s) := by
  have h : Upholds s { s with timer := stepDivider (stepIrqCd (stepReload s.timer)) } :=
    timer_upholds fun ht => stepDivider_ranges (stepIrqCd_ranges (stepReload_ranges ht))
  unfold tickTimer
  dsimp only
  split
  · exact h.trans (upholds_of_watched (by rfl))
  · exact h

theorem writeDiv_upholds (s : State) : Upholds s (writeDiv s) := by
  refine timer_upholds fun h => ?_
  split
  · exact incTima_ranges h
  · exact h

theorem writeTima_upholds (v : Byte) (s : State) : Upholds s (writeTima v s) := by
  unfold writeTima
  split
  · exact timer_upholds id
  · split
    · exact timer_upholds fun _ => ⟨Nat.zero_le 4, Nat.zero_le 4⟩
    · exact timer_upholds id

theorem writeTac_upholds (v : Byte) (s : State) : Upholds s (writeTac v s) := by
  refine timer_upholds fun h => ?_
  split
  · exact incTima_ranges h
  · exact h

/-! ## OAM DMA -/

theorem odmaCopyOne_oam_wf {s : State} (h : s.oam.wf = true) : (odmaCopyOne s).oam.wf = true :=
  mem_wf_write ((congrArg (fun u : State => u.oam.wf) (dmaSrcRead_frame _ s)).trans h) _ _

theorem odmaCopy_oam_wf (n : Nat) {s : State} (h : s.oam.wf = true) : (odmaCopy n s).oam.wf = true := by
  induction n generalizing s with
  | zero => exact h
  | succ n ih => exact ih (odmaCopyOne_oam_wf h)

/-- One copied byte counts one. -/
theorem odmaCopyOne_odma (s : State) : (odmaCopyOne s).odma = { s.odma with copied := s.odma.copied + 1 } :=
  congrArg (fun u : State => { u.odma with copied := s.odma.copied + 1 }) (dmaSrcRead_frame _ s)

theorem odmaCopy_odma (n : Nat) (s : State) : (odmaCopy n s).odma = { s.odma with copied := s.odma.copied + n } := by
  induction n generalizing s with
  | zero => rfl
  | succ n ih =>
    unfold odmaCopy
    rw [ih, odmaCopyOne_odma]
    simp only [Nat.add_assoc, Nat.add_comm 1 n]

theorem odmaTarget_succ (e : Nat) : odmaTarget e ≤ odmaTarget (e + 1) := by
  unfold odmaTarget
  omega

/-- One clock of an active OAM DMA copies exactly the bytes then due, and the transfer ends at 644 clocks (R355). -/
theorem odmaClock_odma {s : State} (h : OdmaRanges s.odma) (ha : s.odma.active = true) :
    (odmaClock s).odma = { s.odma with
      elapsed := s.odma.elapsed + 1, copied := odmaTarget (s.odma.elapsed + 1)
      active := decide (s.odma.elapsed + 1 < odmaClocks) } := by
  obtain ⟨-, -, hact⟩ := h
  obtain ⟨-, hc⟩ := hact ha
  have hle := odmaTarget_succ s.odma.elapsed
  have hsum : s.odma.copied + (odmaTarget (s.odma.elapsed + 1) - s.odma.copied) = odmaTarget (s.odma.elapsed + 1) := by
    omega
  unfold odmaClock
  simp only [odmaCopy_odma, hsum]
  split
  · rename_i he
    simp only [Nat.not_lt.2 he, decide_false]
  · rename_i he
    simp only [odmaCopy_odma, hsum, Nat.lt_of_not_le he, decide_true, ha]

theorem odmaClock_ranges {s : State} (h : OdmaRanges s.odma) (ha : s.odma.active = true) :
    OdmaRanges (odmaClock s).odma := by
  rw [odmaClock_odma h ha]
  have he := (h.2.2 ha).1
  refine ⟨Nat.min_le_left _ _, he, fun hn => ⟨of_decide_eq_true hn, rfl⟩⟩

theorem odmaClock_oam_wf {s : State} (h : s.oam.wf = true) : (odmaClock s).oam.wf = true := by
  unfold odmaClock
  dsimp only
  split
  all_goals exact odmaCopy_oam_wf _ h

theorem tickOdma_oam_wf {s : State} (h : s.oam.wf = true) : (tickOdma s).oam.wf = true := by
  unfold tickOdma
  split
  · exact odmaClock_oam_wf h
  · exact h

theorem tickOdma_ranges {s : State} (h : OdmaRanges s.odma) : OdmaRanges (tickOdma s).odma := by
  unfold tickOdma
  split
  · rename_i ha
    exact odmaClock_ranges h ha
  · exact h

theorem tickOdma_upholds (s : State) : Upholds s (tickOdma s) := by
  have hm : Upholds s { s with oam := (tickOdma s).oam } := oam_upholds tickOdma_oam_wf
  have ho : Upholds { s with oam := (tickOdma s).oam } { s with oam := (tickOdma s).oam, odma := (tickOdma s).odma } :=
    odma_upholds (tickOdma_ranges (s := s))
  exact (hm.trans ho).trans (upholds_of_frame (tickOdma_frame s) rfl)

/-! ## General and HBlank DMA -/

theorem hdmaSrcRead_upholds (a : Nat) (s : State) : Upholds s (hdmaSrcRead s a).2 :=
  upholds_of_frame (hdmaSrcRead_frame a s) rfl

theorem copyBlockByte_upholds (s : State) (i : Nat) : Upholds s (copyBlockByte i s) :=
  (hdmaSrcRead_upholds _ s).trans (vram_upholds fun h => mem_wf_write h _ _)

/-- A block takes 16 bytes from what remains, or leaves nothing. -/
theorem hdmaRanges_less {d e : Hdma} (h : HdmaRanges d) (hr : e.remaining = d.remaining - 16)
    (hc : e.copyLeft = d.copyLeft) : HdmaRanges e := by
  obtain ⟨hle, hmod, hcopy⟩ := h
  exact ⟨by omega, by omega, hc.trans hcopy⟩

theorem copyBlock_upholds (s : State) : Upholds s (copyBlock s) := by
  refine (foldl_upholds copyBlockByte_upholds (List.range 16) s).trans (hdma_upholds fun h => ?_)
  have hd : ((List.range 16).foldl (fun s i => copyBlockByte i s) s).hdma = s.hdma :=
    (congrArg State.hdma (copyBytes_frame (List.range 16) s)).trans rfl
  rw [hd] at h ⊢
  exact hdmaRanges_less h rfl rfl

theorem finishIfDone_upholds (s : State) : Upholds s (finishIfDone s) := by
  unfold finishIfDone
  split
  · exact hdma_upholds id
  · exact Upholds.refl s

theorem onHblank_upholds (ly : Byte) (s : State) : Upholds s (onHblank ly s) := by
  unfold onHblank
  split
  · split
    · exact Upholds.refl s
    · have h := copyBlock_upholds s
      dsimp only
      generalize copyBlock s = u at h ⊢
      refine Upholds.trans ?_ (finishIfDone_upholds _)
      exact h.trans (hdma_upholds id)
  · exact Upholds.refl s
  · exact Upholds.refl s

/-- A transfer starts with 1 to 128 blocks of 16 bytes (R361). -/
theorem hdmaStart_ranges (v : Byte) :
    ((v.extractLsb' 0 7).toNat + 1) * 16 ≤ 2048 ∧ ((v.extractLsb' 0 7).toNat + 1) * 16 % 16 = 0 := by
  have h := (v.extractLsb' 0 7).isLt
  omega

theorem startHdma_upholds (v : Byte) (s : State) : Upholds s (startHdma v s) := by
  obtain ⟨hr, hm⟩ := hdmaStart_ranges v
  unfold startHdma
  dsimp only
  split
  · split
    · exact hdma_upholds fun _ => ⟨hr, hm, rfl⟩
    · refine Upholds.trans ?_ ((copyBlock_upholds _).trans (finishIfDone_upholds _))
      exact hdma_upholds fun _ => ⟨hr, hm, rfl⟩
  · exact hdma_upholds fun _ => ⟨hr, hm, rfl⟩

theorem writeHdma5_upholds (v : Byte) (s : State) : Upholds s (writeHdma5 v s) := by
  unfold writeHdma5
  split
  · exact startHdma_upholds v s
  · split
    · exact startHdma_upholds v s
    · exact hdma_upholds id
  · exact Upholds.refl s

theorem resetDma_upholds (s : State) : Upholds s (resetDma s) := by
  have hdraws := (drawAddr_upholds s).trans ((drawByte_upholds _).trans ((drawAddr_upholds _).trans
    ((drawAddr_upholds _).trans ((drawAddr_upholds _).trans (drawAddr_upholds _)))))
  refine hdraws.trans (dma_upholds (fun _ => ?_) fun _ => ?_)
  · exact ⟨Nat.zero_le _, Nat.zero_le _, nofun⟩
  · exact ⟨Nat.zero_le _, rfl, rfl⟩

/-! ## One clock of a subsystem -/

theorem enterHblank_upholds (ly : Byte) (s : State) : Upholds s (enterHblank ly s) := by
  unfold enterHblank
  exact Upholds.trans (upholds_of_watched (by rfl)) (onHblank_upholds ly _)

theorem ppuClock_upholds (s : State) : Upholds s (ppuClock s) := by
  unfold ppuClock
  dsimp only
  have h (e : PpuStep) (ended : Bool) : Upholds s (ppuIrqs e ended { s with ppu := ppuAged s e ended }) :=
    Upholds.trans (upholds_of_watched (by rfl)) (upholds_of_frame (ppuIrqs_frame e ended _) rfl)
  split
  · exact (h _ _).trans (enterHblank_upholds _ _)
  · exact h _ _

theorem tickPpu_upholds (s : State) : Upholds s (tickPpu s) := by
  unfold tickPpu
  split
  · split
    · exact upholds_of_watched rfl
    · exact Upholds.trans (upholds_of_watched (by rfl)) (ppuClock_upholds _)
  · exact Upholds.refl s

theorem copyFrame_eram_wf (l : List Byte) (i : Nat) {s : State} (h : s.eram.wf = true) :
    (copyFrame l i s).eram.wf = true := by
  induction l generalizing i s with
  | nil => exact h
  | cons v l ih =>
    refine ih (i + 1) ?_
    split
    · exact mem_wf_write h _ _
    · exact h

theorem copyFrame_upholds (l : List Byte) (i : Nat) (s : State) : Upholds s (copyFrame l i s) := by
  rw [copyFrame_frame l i s]
  exact eram_upholds (copyFrame_eram_wf l i)

theorem cameraCapture_upholds (s : State) : Upholds s (cameraCapture s) := by
  unfold cameraCapture
  extract_lets frame s1 s2 own s3
  have h1 : Upholds s s1 := by
    unfold s1
    split
    · exact logOnce_upholds _ s
    · exact Upholds.refl s
  have h2 : Upholds s1 s2 := by
    unfold s2
    split
    · exact Upholds.refl s1
    · exact upholds_of_watched rfl
  have h3 : Upholds s2 s3 := upholds_of_watched rfl
  exact h1.trans (h2.trans (h3.trans (copyFrame_upholds _ _ s3)))

theorem cameraTransition_upholds (s : State) : Upholds s (cameraTransition s) := by
  unfold cameraTransition
  extract_lets s1
  have h1 : Upholds s s1 := by
    unfold s1
    split
    · exact cameraCapture_upholds s
    · exact Upholds.refl s
  exact h1.trans (upholds_of_watched (by rfl))

theorem tickCamera_upholds (s : State) : Upholds s (tickCamera s) := by
  unfold tickCamera
  split
  · dsimp only
    split
    · exact Upholds.trans (upholds_of_watched (by rfl)) (cameraTransition_upholds _)
    · exact upholds_of_watched rfl
  · exact Upholds.refl s

theorem tickSub_upholds (sub : Subsystem) (s : State) : Upholds s (tickSub sub s) := by
  cases sub with
  | timer => exact tickTimer_upholds s
  | serial => exact upholds_of_frame (tickSerial_frame s) rfl
  | ppu => exact tickPpu_upholds s
  | sound => exact upholds_of_frame (tickSound_frame s) rfl
  | dma => exact tickOdma_upholds s
  | camera => exact tickCamera_upholds s

/-! ## Reconciliation and the resets -/

theorem advance_upholds (sub : Subsystem) (d : Nat) (s : State) : Upholds s (advance sub d s) := by
  induction d generalizing s with
  | zero => exact Upholds.refl s
  | succ d ih => exact (tickSub_upholds sub s).trans (ih _)

theorem tickSub_ref (sub : Subsystem) (s : State) : (tickSub sub s).ref = s.ref :=
  (congrArg State.ref (tickSub_only sub s)).trans rfl

theorem advance_ref (sub : Subsystem) (d : Nat) (s : State) : (advance sub d s).ref = s.ref :=
  (congrArg State.ref (advance_only sub d s)).trans rfl

theorem lockOne_ref (c : Nat) (s : State) (sub : Subsystem) : (lockOne c s sub).ref = s.ref :=
  (congrArg State.ref (lockOne_only c s sub)).trans rfl

theorem lockClock_ref (c : Nat) (s : State) : (lockClock c s).ref = s.ref :=
  (congrArg State.ref (lockClock_only c s)).trans rfl

/-- A subsystem behind the clock is stepped to a clock that has passed. -/
theorem lockOne_upholds {c : Nat} {s : State} (hc : c < s.ref) (sub : Subsystem) : Upholds s (lockOne c s sub) := by
  unfold lockOne
  split
  · exact (tickSub_upholds sub s).trans (setLast_upholds sub (by rw [tickSub_ref]; exact hc))
  · exact Upholds.refl s

theorem lockClock_upholds {c : Nat} {s : State} (hc : c < s.ref) : Upholds s (lockClock c s) := by
  unfold lockClock
  generalize lockOrder = l
  induction l generalizing s with
  | nil => exact Upholds.refl s
  | cons sub l ih => exact (lockOne_upholds hc sub).trans (ih (by rw [lockOne_ref]; exact hc))

/-- The lockstep loop to a reference the clock has reached (R284). -/
theorem lockstep_upholds (k : Nat) {r : Nat} {s : State} (hr : r ≤ s.ref) : Upholds s (lockstep k r s) := by
  induction k generalizing s with
  | zero => exact Upholds.refl s
  | succ k ih =>
    unfold lockstep
    split
    · rename_i hlt
      exact (lockClock_upholds (hlt.trans_le hr)).trans (ih (by rw [lockClock_ref]; exact hr))
    · exact Upholds.refl s

theorem reconcileAll_upholds (s : State) : Upholds s (reconcileAll s) := by
  rw [reconcileAll_eq]
  exact lockstep_upholds s.ref (Nat.le_refl s.ref)

theorem reconcile_upholds (sub : Subsystem) (r : Nat) (s : State) : Upholds s (reconcile sub r s) := by
  unfold reconcile
  split
  · cases sub with
    | sound => exact Upholds.refl s
    | timer | serial | ppu | dma | camera => exact raise_upholds _ s
  · split
    · exact raise_upholds _ s
    · rename_i hr
      exact (advance_upholds sub _ s).trans (setLast_upholds sub (by rw [advance_ref]; exact Nat.le_of_not_lt hr))

theorem nextEvt_upholds (sub : Subsystem) (s : State) : Upholds s (nextEvt sub s) := by
  unfold nextEvt
  split
  · exact raise_upholds _ s
  · exact respond_upholds _ s

theorem resetTimer_upholds (s : State) : Upholds s (resetTimer s) := by
  have hdraws := (drawAddr_upholds s).trans ((drawByte_upholds _).trans ((drawByte_upholds _).trans (drawByte_upholds _)))
  exact hdraws.trans (timer_upholds fun _ => ⟨Nat.zero_le 4, Nat.zero_le 4⟩)

theorem resetSub_upholds (sub : Subsystem) (s : State) : Upholds s (resetSub sub s) := by
  cases sub with
  | timer => exact resetTimer_upholds s
  | dma => exact resetDma_upholds s
  | serial | ppu | sound | camera => exact upholds_of_watched rfl

theorem subReset_upholds (s : State) (sub : Subsystem) : Upholds s (subReset sub s) :=
  (resetSub_upholds sub s).trans (setLast_upholds sub (congrArg State.ref (resetSub_only sub s)).ge)

end Sys2Proof.Machine
end

section
/-! SUPPORT. The bus, DMAEXEC, the interrupt check, the CPU step, the burst and the host uphold the invariants, and so does
a step; the statements on the invariants follow. -/

namespace Sys2Proof.Machine

open Sys2Proof.Safety

/-! ## Bus reads -/

theorem mapperRead_upholds (a : Nat) (s : State) : Upholds s (mapperRead s a).2 :=
  upholds_of_frame (mapperRead_frame a s) rfl

theorem rom0Read_upholds (a : Nat) (s : State) : Upholds s (rom0Read s a).2 :=
  upholds_of_frame (rom0Read_frame a s) rfl

theorem setCollabState_upholds (c : Collab) (x : CollabCore) (s : State) : Upholds s (setCollabState c x s) := by
  cases c <;> exact upholds_of_watched rfl

theorem keepShadow_upholds (c : Collab) (bytes : List (Addr × Byte)) (s : State) : Upholds s (keepShadow c bytes s) :=
  ioShadow_upholds (keptShadow_wf s c bytes)

theorem collabRead_upholds (c : Collab) (a : Addr) (s : State) : Upholds s (collabRead c a s).2 := by
  unfold collabRead
  split
  · dsimp only
    split
    · exact (setCollabState_upholds c _ s).trans (keepShadow_upholds c _ _)
    · exact Upholds.refl s
  · exact drawByte_upholds s

/-- Of the block's own registers none changes by a read; the others' reads log, draw or take their side effect. -/
theorem ioRead_upholds (a : Addr) (s : State) : Upholds s (ioRead a s).2 := by
  unfold ioRead
  generalize ioRegOf s a = r
  cases r with
  | collab c => exact collabRead_upholds c a s
  | unrecognized => exact upholds_of_watched rfl
  | _ => exact Upholds.refl s

theorem regionRead_upholds (a : Addr) (s : State) : Upholds s (regionRead a s).2 := by
  unfold regionRead
  split
  · exact drawByte_upholds s
  · unfold regionValue
    dsimp only
    cases regionOf a with
    | rom0 => exact rom0Read_upholds _ s
    | romX | eram => exact mapperRead_upholds _ s
    | io | ie => exact ioRead_upholds a s
    | vram | wram | echo | oam | unusable | hram => exact Upholds.refl s

theorem readCommand_upholds (a : Addr) (s : State) : Upholds s (readCommand a s) :=
  unlessGdma_upholds s fun u => (reconcileAll_upholds u).trans ((regionRead_upholds a _).trans (respond_upholds _ _))

/-! ## Bus writes -/

theorem joypadIrq_upholds (c : Collab) (irq : Bool) (s : State) : Upholds s (joypadIrq c irq s) := by
  cases c <;> cases irq <;> exact upholds_of_watched rfl

theorem ppuAfterWrite_upholds (c : Collab) (a : Addr) (v : Byte) (s : State) : Upholds s (ppuAfterWrite c a v s) := by
  cases c <;> exact upholds_of_watched rfl

theorem collabWrite_upholds (c : Collab) (a : Addr) (v : Byte) (s : State) : Upholds s (collabWrite c a v s) := by
  unfold collabWrite
  split
  · exact (setCollabState_upholds c _ s).trans ((keepShadow_upholds c _ _).trans
      ((ppuAfterWrite_upholds c a v _).trans (joypadIrq_upholds c _ _)))
  · exact Upholds.refl s

theorem writeDmaReg_upholds (v : Byte) (s : State) : Upholds s (writeDmaReg v s) :=
  odma_upholds fun _ => ⟨Nat.zero_le _, Nat.zero_le _, fun _ => ⟨Nat.succ_pos _, by simp [odmaTarget]⟩⟩

theorem ioWrite_upholds (a : Addr) (v : Byte) (s : State) : Upholds s (ioWrite a v s) := by
  unfold ioWrite
  generalize ioRegOf s a = r
  cases r with
  | div => exact writeDiv_upholds s
  | tima => exact writeTima_upholds v s
  | tma => exact timer_upholds id
  | tac => exact writeTac_upholds v s
  | dma => exact writeDmaReg_upholds v s
  | boot => exact writeBoot_upholds s
  | hdma1 | hdma2 | hdma3 | hdma4 => exact hdma_upholds id
  | hdma5 => exact writeHdma5_upholds v s
  | collab c => exact collabWrite_upholds c a v s
  | ifReg | ie | key1 | vbk | svbk | unrecognized => exact upholds_of_watched rfl

theorem eramWrite_upholds (a : Nat) (v : Byte) (s : State) : Upholds s (eramWrite s a v) := by
  unfold eramWrite
  split
  · exact eram_upholds fun h => mem_wf_write h _ _
  · exact Upholds.refl s

/-- Drawn bytes move the draw counter, and what is drawn goes into a mapper. -/
theorem mapperDraw_upholds (n : Nat) (m : Mapper) (s : State) : Upholds s { (drawBytes n s).2 with mapper := m } := by
  rw [drawBytes_snd]
  exact upholds_of_watched rfl

theorem latchRtc_upholds (m : Mbc3) (s : State) : Upholds s (latchRtc s m) := by
  unfold latchRtc
  split
  · dsimp only
    rw [drawRtc_snd]
    exact upholds_of_watched rfl
  · exact upholds_of_watched rfl

theorem mbc3Write_upholds (m : Mbc3) (a : Nat) (v : Byte) (s : State) : Upholds s (mbc3Write s m a v) := by
  unfold mbc3Write
  split_ifs
  · exact upholds_of_watched rfl
  · exact upholds_of_watched rfl
  · exact upholds_of_watched rfl
  · exact latchRtc_upholds m s
  · exact upholds_of_watched rfl

theorem bankWrite_upholds (a : Nat) (v : Byte) (s : State) : Upholds s (bankWrite s a v) := by
  unfold bankWrite
  generalize s.mapper = m
  cases m with
  | none => exact Upholds.refl s
  | mbc3 m => exact mbc3Write_upholds m a v s
  | supplied k m => exact mapperDraw_upholds 5 _ s
  | _ => exact upholds_of_watched rfl

theorem cameraWrite_upholds (a : Nat) (v : Byte) (s : State) : Upholds s (cameraWrite a v s) := by
  unfold cameraWrite
  split
  · exact Upholds.trans (upholds_of_watched (by rfl)) (keepShadow_upholds .camera _ _)
  · exact Upholds.refl s

theorem windowWrite_upholds (a : Nat) (v : Byte) (s : State) : Upholds s (windowWrite s a v) := by
  unfold windowWrite
  split
  · exact cameraWrite_upholds a v s
  · generalize s.mapper = m
    cases m with
    | mbc3 m =>
      show Upholds s (mbc3RamWrite s m a v)
      unfold mbc3RamWrite
      split
      · exact upholds_of_watched rfl
      · exact eramWrite_upholds a v s
    | mbc7 m =>
      dsimp only
      split_ifs
      · exact upholds_of_watched rfl
      · exact mapperDraw_upholds 4 _ s
      · exact Upholds.refl s
    | supplied k m =>
      dsimp only
      split
      · exact mapperDraw_upholds 5 _ s
      · exact eramWrite_upholds a v s
    | _ => exact eramWrite_upholds a v s

theorem mapperWrite_upholds (a : Nat) (v : Byte) (s : State) : Upholds s (mapperWrite s a v) := by
  unfold mapperWrite
  split
  · exact bankWrite_upholds a v s
  · exact windowWrite_upholds a v s

theorem regionWrite_upholds (a : Addr) (v : Byte) (s : State) : Upholds s (regionWrite a v s) := by
  unfold regionWrite
  dsimp only
  cases regionOf a with
  | rom0 | romX | eram => exact mapperWrite_upholds _ v s
  | io | ie => exact ioWrite_upholds a v s
  | wram | echo => exact wram_upholds fun h => mem_wf_write h _ _
  | hram => exact hram_upholds fun h => mem_wf_write h _ _
  | unusable => exact Upholds.refl s
  | vram =>
    dsimp only
    split
    · exact Upholds.refl s
    · exact vram_upholds fun h => mem_wf_write h _ _
  | oam =>
    dsimp only
    split
    · exact Upholds.refl s
    · exact oam_upholds fun h => mem_wf_write h _ _

theorem markBreak_upholds (a : Addr) (s : State) : Upholds s (markBreak a s) := by
  unfold markBreak
  split <;> exact upholds_of_watched rfl

theorem busWrite_upholds (a : Addr) (v : Byte) (s : State) : Upholds s (busWrite a v s) :=
  (reconcileAll_upholds s).trans ((regionWrite_upholds a v _).trans (markBreak_upholds a _))

theorem writeCommand_upholds (a : Addr) (v : Byte) (s : State) : Upholds s (writeCommand a v s) :=
  unlessGdma_upholds s (busWrite_upholds a v)

/-! ## DMAEXEC -/

theorem gdmaBlock_upholds (s : State) : Upholds s (gdmaBlock s) :=
  (reconcileAll_upholds s).trans ((copyBlock_upholds _).trans (addClock_upholds _ _))

theorem gdmaLoop_upholds (start c k : Nat) (s : State) : Upholds s (gdmaLoop start c k s) := by
  induction k generalizing s with
  | zero => exact Upholds.refl s
  | succ k ih =>
    refine (gdmaBlock_upholds s).trans (unlessFaulted_upholds _ fun u => ?_)
    split_ifs
    · exact hdma_upholds id
    · exact Upholds.refl u
    · exact ih u

theorem payPrep_upholds (c : Nat) (s : State) : Upholds s (payPrep c s) := by
  refine Upholds.trans ?_ (addClock_upholds (prepClocks c s) _)
  exact hdma_upholds id

theorem gdmaRun_upholds (c : Nat) (s : State) : Upholds s (gdmaRun c s) := by
  unfold gdmaRun
  split
  · refine (payPrep_upholds c s).trans (unlessFaulted_upholds _ fun u => ?_)
    split
    · exact Upholds.refl u
    · exact gdmaLoop_upholds _ _ _ u
  · exact gdmaLoop_upholds _ _ _ s

theorem dmaExec_upholds (c : Nat) (s : State) : Upholds s (dmaExec c s) := by
  unfold dmaExec
  split
  · exact (gdmaRun_upholds c s).trans (respond_upholds _ _)
  · exact respond_upholds _ s
  · exact respond_upholds _ s

/-! ## The interrupt check -/

theorem takeVector_upholds (s : State) : Upholds s (takeVector s) := by
  unfold takeVector
  dsimp only
  split <;> exact upholds_of_watched rfl

theorem acknowledge_upholds (s : State) : Upholds s (acknowledge s) := by
  unfold acknowledge
  refine Upholds.trans (Upholds.trans (upholds_of_watched (by rfl)) (addClock_upholds 8 { s with ime := false }))
    (unlessFaulted_upholds _ fun u => ?_)
  refine ((busWrite_upholds _ _ u).trans (addClock_upholds 4 _)).trans (unlessFaulted_upholds _ fun v => ?_)
  refine Upholds.trans ?_ ((reconcileAll_upholds _).trans ((takeVector_upholds _).trans (addClock_upholds 8 _)))
  exact (busWrite_upholds _ _ v).trans (upholds_of_watched (by rfl))

theorem wake_upholds (n : Nat) (s : State) : Upholds s (addClock n { s with haltMode := .run }) :=
  Upholds.trans (upholds_of_watched (by rfl)) (addClock_upholds n { s with haltMode := .run })

theorem wakeAfterAck_upholds (s : State) : Upholds s (wakeAfterAck s) := by
  unfold wakeAfterAck
  split
  · exact wake_upholds _ s
  · exact Upholds.refl s
  · exact Upholds.refl s

theorem wakeWithoutService_upholds (s : State) : Upholds s (wakeWithoutService s) := by
  unfold wakeWithoutService
  split
  · exact wake_upholds 4 s
  · exact Upholds.refl s
  · exact Upholds.refl s

theorem irqDecide_upholds (s : State) : Upholds s (irqDecide s) := by
  have hrun : Upholds s (if pendingIrqs s = 0 then s
      else if s.ime then unlessFaulted (acknowledge s) wakeAfterAck else wakeWithoutService s) := by
    split_ifs
    · exact Upholds.refl s
    · exact (acknowledge_upholds s).trans (unlessFaulted_upholds _ wakeAfterAck_upholds)
    · exact wakeWithoutService_upholds s
  unfold irqDecide
  split
  · unfold stopCheck
    split <;> exact upholds_of_watched rfl
  · exact hrun
  · exact hrun

theorem irqCheck_upholds (s : State) : Upholds s (irqCheck s) :=
  unlessGdma_upholds s fun u =>
    (reconcileAll_upholds u).trans ((irqDecide_upholds _).trans (respond_upholds _ _))

/-! ## The CPU step and the burst -/

theorem setHaltMode_upholds (m : HaltMode) (s : State) : Upholds s (setHaltMode m s) := by
  cases m with
  | run | halt => exact upholds_of_watched rfl
  | stop =>
    unfold setHaltMode
    dsimp only
    split
    · exact Upholds.trans (upholds_of_watched (by rfl)) (addClock_upholds s.params.speedSwitchClocks _)
    · exact upholds_of_watched rfl

theorem cpuRule_upholds {i : Instr} {f : State → State} (h : cpuRule i = some f) (s : State) : Upholds s (f s) := by
  cases i <;> simp only [cpuRule, Option.some.injEq, reduceCtorEq] at h <;> subst h
  case rd8 a | rdreg8 a => exact readCommand_upholds a s
  case wr8 a v | wrreg8 a v => exact writeCommand_upholds a v s
  case clkget => exact respond_upholds _ s
  case clkadd n => exact addClock_upholds n.toNat s
  case dmaexec n => exact dmaExec_upholds n.toNat s
  case cpusetPc | cpusetSp | cpusetIme => exact upholds_of_watched rfl
  case cpusetHaltRun | cpusetHaltHalt | cpusetHaltStop => exact setHaltMode_upholds _ s

theorem collectReply_upholds (s : State) : Upholds s (collectReply s) := by
  unfold collectReply
  split <;> exact upholds_of_watched rfl

theorem cpuIssueWord_upholds (w : Word) (s : State) : Upholds s (cpuIssueWord w s) := by
  unfold cpuIssueWord
  split
  · rename_i i _
    unfold cpuIssue
    split
    · rename_i f hf
      exact (command_upholds s (cpuRule_upholds hf)).trans (collectReply_upholds _)
    · exact raise_upholds _ s
  · exact upholds_of_watched rfl

theorem cpuRun_upholds (next : Nat → List Response → Option Word) (k issued clocks : Nat) (s : State) :
    Upholds s (cpuRun next k issued clocks s).2 := by
  induction k generalizing issued clocks s with
  | zero => exact Upholds.refl s
  | succ k ih =>
    unfold cpuRun
    split
    · exact (cpuIssueWord_upholds _ s).trans (ih _ _ _)
    · exact Upholds.refl s

theorem cpuEnd_upholds (r : Nat × State) : Upholds r.2 (cpuEnd r) := by
  unfold cpuEnd
  split
  · exact (raise_upholds _ r.2).trans (upholds_of_watched (by rfl))
  · exact upholds_of_watched rfl

theorem cpuStep_upholds (s : State) : Upholds s (cpuStep s) := by
  unfold cpuStep
  split
  · exact Upholds.trans (upholds_of_watched (by rfl)) ((cpuRun_upholds _ _ _ _ _).trans (cpuEnd_upholds _))
  · unfold cpuStepFree
    extract_lets t
    have h : Upholds s t :=
      Upholds.trans (upholds_of_watched (by rfl)) ((cpuRun_upholds _ _ _ _ _).trans (cpuEnd_upholds _))
    exact h.trans (upholds_of_watched (by rfl))

theorem afterCheck_upholds (s : State) : Upholds s (afterCheck s) := by
  unfold afterCheck
  split
  · exact Upholds.refl s
  · split
    · exact cpuStep_upholds s
    · exact addClock_upholds _ s
    · exact addClock_upholds _ s

theorem payStall_upholds (s : State) : Upholds s (payStall s) :=
  (addClock_upholds _ s).trans (unlessFaulted_upholds _ fun _ => hdma_upholds id)

theorem burstStep_upholds (s : State) : Upholds s (burstStep s) := by
  have h : Upholds s (if s.hdma.stall > 0 then payStall s else unlessFaulted (irqCheck s) afterCheck) := by
    split
    · exact payStall_upholds s
    · exact (irqCheck_upholds s).trans (unlessFaulted_upholds _ afterCheck_upholds)
  unfold burstStep
  split
  · exact dmaExec_upholds _ s
  · exact h
  · exact h

theorem burstLoop_upholds (h k : Nat) (s : State) : Upholds s (burstLoop h k s) := by
  induction k generalizing s with
  | zero => exact Upholds.refl s
  | succ k ih =>
    refine (burstStep_upholds s).trans (unlessFaulted_upholds _ fun u => ?_)
    have hu : Upholds u { u with breakFlag := false } := upholds_of_watched rfl
    dsimp only
    split
    · exact hu
    · exact hu.trans (ih _)

theorem horizon_upholds (n : Nat) (s : State) : Upholds s { s with horizon := n } := upholds_of_watched rfl

theorem setHorizon_upholds (s : State) : Upholds s (setHorizon s) := by
  have h := reconcileAll_upholds s
  unfold setHorizon
  dsimp only
  generalize reconcileAll s = u at h ⊢
  split
  · exact h.trans (raise_upholds _ u)
  · exact h.trans (horizon_upholds _ u)

theorem burst_upholds (s : State) : Upholds s (burst s) := by
  refine (setHorizon_upholds s).trans (unlessFaulted_upholds _ fun u => ?_)
  exact Upholds.trans (upholds_of_watched (by rfl)) (burstLoop_upholds _ _ (startBurst u))

theorem segmentLoop_upholds (k : Nat) (s : State) : Upholds s (segmentLoop k s) := by
  induction k generalizing s with
  | zero => exact Upholds.refl s
  | succ k ih =>
    refine unlessFaulted_upholds s fun u => ?_
    split
    · exact (burst_upholds u).trans (ih _)
    · exact Upholds.refl u

/-- The rebase takes the clock to 0 and every counter with it (R250). -/
theorem rebaseClock_upholds (s : State) : Upholds s (rebaseClock s) where
  counters := fun ⟨_, hl⟩ => ⟨Nat.zero_le _, fun sub => by
    have h : (s.last.rebase s.ref).get sub = s.last.get sub - s.ref := by cases sub <;> rfl
    show (s.last.rebase s.ref).get sub ≤ 0
    rw [h, Nat.sub_eq_zero_of_le (hl sub)]⟩
  memory := id
  ranges := id
  dispatch := id
  family := rfl
  renderer := rfl
  boot := id

theorem runFor_upholds (n : Nat) (s : State) : Upholds s (runFor n s) := by
  have hend (u : State) : Upholds u (endSegment u) := (reconcileAll_upholds u).trans (rebaseClock_upholds _)
  refine Upholds.trans ?_ ((hend _).trans (upholds_of_watched (by rfl)))
  exact Upholds.trans (upholds_of_watched (by rfl)) (segmentLoop_upholds _ (startSegment n s))

/-! ## Every command but POWERON -/

theorem horizonCommand_upholds (s : State) : Upholds s (horizonCommand s) :=
  (setHorizon_upholds s).trans (respond_upholds _ _)

theorem breakCheck_upholds (s : State) : Upholds s (breakCheck s) :=
  Upholds.trans (upholds_of_watched (by rfl)) (respond_upholds _ { s with breakFlag := false })

theorem mapperSet_upholds (kind : MapperKind) (s : State) : Upholds s (mapperSet kind s) := by
  cases kind with
  | mbc6 => exact Upholds.trans (upholds_of_watched (by rfl)) (logOnce_upholds _ { s with mapper := mapperInit .mbc6 s })
  | _ => exact upholds_of_watched rfl

/-- Every command but POWERON runs a rule that upholds the invariants. -/
theorem exec_rule {i : Instr} (hi : ¬ isPoweron i) (s : State) :
    ∃ f : State → State, exec i s = .next (command f s) ∧ ∀ u, Upholds u (f u) := by
  cases i with
  | rd8 a | rdreg8 a => exact ⟨_, rfl, readCommand_upholds a⟩
  | wr8 a v | wrreg8 a v => exact ⟨_, rfl, writeCommand_upholds a v⟩
  | clkget => exact ⟨_, rfl, fun u => respond_upholds _ u⟩
  | clkadd n => exact ⟨_, rfl, addClock_upholds n.toNat⟩
  | brkchk => exact ⟨_, rfl, breakCheck_upholds⟩
  | irqchk => exact ⟨_, rfl, irqCheck_upholds⟩
  | dmaexec n => exact ⟨_, rfl, dmaExec_upholds n.toNat⟩
  | horizon => exact ⟨_, rfl, horizonCommand_upholds⟩
  | reconcileTimer n | reconcileSerial n | reconcilePpu n | reconcileSound n | reconcileDma n | reconcileCamera n =>
    exact ⟨_, rfl, reconcile_upholds _ n.toNat⟩
  | nextevtTimer | nextevtSerial | nextevtPpu | nextevtSound | nextevtDma | nextevtCamera =>
    exact ⟨_, rfl, nextEvt_upholds _⟩
  | subresetTimer | subresetSerial | subresetPpu | subresetSound | subresetDma | subresetCamera =>
    exact ⟨_, rfl, fun u => subReset_upholds u _⟩
  | runfor n => exact ⟨_, rfl, runFor_upholds n.toNat⟩
  | poweron m b c => exact absurd ⟨m, b, c, rfl⟩ hi
  | mappersetNone | mappersetMbc1 | mappersetMbc2 | mappersetMbc3 | mappersetMbc5 | mappersetMbc6 | mappersetMbc7
  | mappersetMmm01 | mappersetRumble | mappersetCamera => exact ⟨_, rfl, mapperSet_upholds _⟩
  | cpusetPc | cpusetSp | cpusetIme => exact ⟨_, rfl, fun u => upholds_of_watched rfl⟩
  | cpusetHaltRun | cpusetHaltHalt | cpusetHaltStop => exact ⟨_, rfl, setHaltMode_upholds _⟩

theorem exec_upholds {i : Instr} {s t : State} (h : exec i s = .next t) (hi : ¬ isPoweron i) : Upholds s t := by
  obtain ⟨f, hf, hu⟩ := exec_rule hi s
  obtain rfl : command f s = t := Host.Outcome.next.inj (hf.symm.trans h)
  exact command_upholds s hu

/-! ## POWERON, the host, and one step -/

theorem acceptModel_upholds (m : BitVec 3) (s : State) : Upholds s (acceptModel m s).2 := by
  unfold acceptModel
  split <;> exact upholds_of_watched rfl

theorem acceptCgb_upholds (m : HwModel) (cgb : Bool) (s : State) : Upholds s (acceptCgb m cgb s).2 := by
  unfold acceptCgb
  split <;> exact upholds_of_watched rfl

theorem powerDraws_frame (s : State) :
    powerDraws s = { s with
      ieReg := (powerDraws s).ieReg, ifReg := (powerDraws s).ifReg, vram := (powerDraws s).vram
      wram := (powerDraws s).wram, oam := (powerDraws s).oam, hram := (powerDraws s).hram
      ioShadow := (powerDraws s).ioShadow, draws := (powerDraws s).draws } := by
  simp only [powerDraws, drawByte, drawMem]

theorem powerDraws_wf (s : State) :
    (powerDraws s).vram.wf = true ∧ (powerDraws s).wram.wf = true ∧ (powerDraws s).oam.wf = true ∧
    (powerDraws s).hram.wf = true ∧ (powerDraws s).ioShadow.wf = true := ⟨rfl, rfl, rfl, rfl, rfl⟩

theorem powerDraws_keeps (s : State) : KeepsInvariants s (powerDraws s) := by
  obtain ⟨hvram, hwram, hoam, hhram, hshadow⟩ := powerDraws_wf s
  have hframe := powerDraws_frame s
  generalize powerDraws s = t at *
  rw [hframe]
  exact ⟨id, fun ⟨hrom, heram, _, _, _, _, _, hboot, himage⟩ =>
    ⟨hrom, heram, hvram, hwram, hoam, hhram, hshadow, hboot, himage⟩, id, id⟩

/-- Each SUBRESET puts the counter of its subsystem at the clock. -/
theorem subResets_last (subs : List Subsystem) (s : State) (sub : Subsystem) :
    (subs.foldl (fun s sub => subReset sub s) s).last.get sub = if sub ∈ subs then s.ref else s.last.get sub := by
  induction subs generalizing s with
  | nil => rfl
  | cons a rest ih =>
    have href : (subReset a s).ref = s.ref := (congrArg State.ref (subReset_only a s)).trans rfl
    have hlast : (resetSub a s).last = s.last := by
      cases a <;> simp only [resetSub, resetTimer, resetDma, resetPpu, resetCamera, drawAddr, drawByte]
    rw [List.foldl_cons, ih, href]
    by_cases hr : sub ∈ rest
    · rw [if_pos hr, if_pos (List.mem_cons_of_mem a hr)]
    · rw [if_neg hr]
      simp only [List.mem_cons, hr, or_false, subReset, setLast_last, lasts_get_set, hlast]

theorem resetAll_last (s : State) (sub : Subsystem) : (resetAll s).last.get sub = s.ref := by
  have h : sub ∈ lockOrder := by cases sub <;> decide
  exact (subResets_last lockOrder s sub).trans (if_pos h)

/-- The state whose subsystems POWERON resets has its clock at 0. -/
theorem powerDraws_ref (m : HwModel) (boot cgb : Bool) (s : State) :
    (powerDraws (powerFixed m boot cgb s)).ref = 0 :=
  (congrArg State.ref (powerDraws_frame _)).trans rfl

theorem powerEntry_keeps (boot : Bool) (s : State) :
    (powerEntry boot s).last = s.last ∧ (powerEntry boot s).ref = s.ref := ⟨rfl, rfl⟩

/-- POWERON sets the clock to 0 and resets every subsystem there (R400, R521). -/
theorem powerOn_last (m : BitVec 3) (boot cgb : Bool) (s : State) (sub : Subsystem) :
    (powerOn m boot cgb s).last.get sub = 0 := by
  rw [powerOn, (powerEntry_keeps _ _).1, resetAll_last, powerDraws_ref]

theorem powerOn_ref (m : BitVec 3) (boot cgb : Bool) (s : State) : (powerOn m boot cgb s).ref = 0 := by
  rw [powerOn, (powerEntry_keeps _ _).2, congrArg State.ref (resetAll_only _), powerDraws_ref]

theorem powerFixed_memory (m : HwModel) (boot cgb : Bool) {s : State} (h : MemoryCanonical s) :
    MemoryCanonical (powerFixed m boot cgb s) := by
  obtain ⟨hrom, heram, hvram, hwram, hoam, hhram, hshadow, hboot, himage⟩ := h
  refine ⟨hrom, heram, hvram, hwram, hoam, hhram, hshadow, ?_, himage⟩
  show (if boot then s.bootImage else s.bootRom).wf = true
  split
  · exact himage
  · exact hboot

/-- The draws, the resets and the entry point of POWERON. -/
theorem powerRest_keeps (boot : Bool) (s : State) : KeepsInvariants s (powerEntry boot (resetAll (powerDraws s))) :=
  ((powerDraws_keeps s).trans (foldl_upholds subReset_upholds lockOrder _).toKeepsInvariants).trans
    ((drawAddr_upholds _).trans (upholds_of_watched (by rfl))).toKeepsInvariants

theorem powerOn_counters (m : BitVec 3) (boot cgb : Bool) (s : State) : CounterBounds (powerOn m boot cgb s) :=
  ⟨(powerOn_ref m boot cgb s).le.trans (Nat.zero_le _),
    fun sub => (powerOn_last m boot cgb s sub).le.trans (Nat.zero_le _)⟩

/-- POWERON keeps the memories and the field ranges; the counter bounds and the selected dispatch set it establishes. -/
theorem powerOn_keeps (m : BitVec 3) (boot cgb : Bool) (s : State) : KeepsInvariants s (powerOn m boot cgb s) := by
  have hcounters := powerOn_counters m boot cgb s
  unfold powerOn at hcounters ⊢
  extract_lets a c
  have hbefore : Upholds s c.2 :=
    Upholds.trans (upholds_of_watched (by rfl)) ((acceptModel_upholds _ _).trans (acceptCgb_upholds _ _ _))
  have hrest := powerRest_keeps boot (powerFixed a.1 boot c.1 c.2)
  constructor
  · exact fun _ => hcounters
  · exact fun h => hrest.memory (powerFixed_memory _ _ _ (hbefore.memory h))
  · exact fun h => hrest.ranges (hbefore.ranges h)
  · exact fun _ => hrest.dispatch rfl

theorem exec_keeps {i : Instr} {s t : State} (h : exec i s = .next t) : KeepsInvariants s t := by
  by_cases hi : isPoweron i
  · obtain ⟨m, b, c, rfl⟩ := hi
    obtain rfl : powerOn m b c s = t := Host.Outcome.next.inj h
    exact powerOn_keeps m b c s
  · exact (exec_upholds h hi).toKeepsInvariants

theorem loadCartridge_keeps (c : Cartridge) (s : State) : KeepsInvariants s (loadCartridge c s) where
  counters := id
  memory := fun ⟨_, _, hs⟩ => ⟨mem_wf_ofCells _ _, mem_wf_ofCells _ _, hs⟩
  ranges := id
  dispatch := id

theorem moveJoypad_upholds (keys : Byte) (s : State) : Upholds s (moveJoypad keys s) := by
  unfold moveJoypad
  dsimp only
  split_ifs <;> exact upholds_of_watched rfl

theorem savedRtc_upholds (s : State) : Upholds s (savedRtc s).2 := by
  unfold savedRtc
  split
  · split
    · exact upholds_of_frame (drawRtc_snd s) rfl
    · exact Upholds.refl s
  · exact upholds_of_frame (drawBytes_snd 5 s) rfl
  all_goals exact Upholds.refl s

theorem bootImage_keeps (cells : List Host.Cell) (s : State) :
    KeepsInvariants s (hostAct (.bootImage cells) s) where
  counters := id
  memory := fun ⟨h1, h2, h3, h4, h5, h6, h7, h8, _⟩ => ⟨h1, h2, h3, h4, h5, h6, h7, h8, mem_wf_ofCells 0 cells⟩
  ranges := id
  dispatch := id

theorem hostAct_keeps (h : HostInput) (s : State) : KeepsInvariants s (hostAct h s) := by
  cases h with
  | command w => exact (Upholds.refl s).toKeepsInvariants
  | cartridge c => exact loadCartridge_keeps c s
  | bootImage cells => exact bootImage_keeps cells s
  | joypad keys => exact (moveJoypad_upholds keys s).toKeepsInvariants
  | takeAudio => exact (upholds_of_watched (by rfl) : Upholds s (takeAudio s)).toKeepsInvariants
  | save => exact ((savedRtc_upholds s).trans (upholds_of_watched (by rfl))).toKeepsInvariants

/-- Every step keeps each of the four invariants. -/
theorem step_keeps {s t : State} (h : step s = .next t) : KeepsInvariants s t := by
  have htake (rest : List HostInput) : KeepsInvariants s { s with inputs := rest } :=
    (upholds_of_watched (by rfl) : Upholds s { s with inputs := rest }).toKeepsInvariants
  have hrefuse (rest : List HostInput) : KeepsInvariants s (refuseWord { s with inputs := rest }) :=
    (upholds_of_watched (by rfl) : Upholds s (refuseWord { s with inputs := rest })).toKeepsInvariants
  have hact {x : HostInput} {rest : List HostInput}
      (h : (.next (hostAct x { s with inputs := rest }) : Host.Outcome State Fault Refusal) = .next t) :
      KeepsInvariants s t :=
    Host.Outcome.next.inj h ▸ (htake rest).trans (hostAct_keeps x _)
  unfold step at h
  split at h
  · exact Host.Outcome.next.inj h ▸ (Upholds.refl s).toKeepsInvariants
  · split at h
    · exact (htake _).trans (exec_keeps h)
    · exact Host.Outcome.next.inj h ▸ hrefuse _
  all_goals exact hact h

/-! ## The obligations -/

/-- Settles O55: the counters are one of the invariants every step keeps, and POWERON resets every subsystem at clock 0. -/
theorem stepKeepsTheCounterBounds : Obligations.StepKeepsTheCounterBounds := by
  refine ⟨fun s t hs h => (step_keeps h).counters hs, fun sub => by cases sub <;> rfl, fun s t m b c h sub => ?_⟩
  obtain rfl : powerOn m b c s = t := Host.Outcome.next.inj h
  exact powerOn_last m b c s sub

/-- Settles O56: every byte of an array changes by `Mem.write`, which keeps the canonical form, or with the whole array. -/
theorem stepKeepsMemoryCanonical : Obligations.StepKeepsMemoryCanonical :=
  fun _ _ hs h => (step_keeps h).memory hs

/-- Settles O57: the countdowns restart at 4 at most, an active OAM DMA copies what is due in the same clock, and HDMA's
bytes go by blocks of 16. -/
theorem stepKeepsTheFieldRanges : Obligations.StepKeepsTheFieldRanges :=
  fun _ _ hs h => (step_keeps h).ranges hs

/-- Settles O58: the boot flag falls with a write to 0xFF50 alone, which selects the dispatch set again, and POWERON, which
selects it too, is the one command that sets it. -/
theorem dispatchChangesOneWay : Obligations.DispatchChangesOneWay :=
  ⟨fun _ _ hs h => (step_keeps h).dispatch hs, rfl, rfl, rfl, rfl, rfl,
    fun _ _ _ h hi => ⟨(exec_upholds h hi).family, (exec_upholds h hi).renderer, (exec_upholds h hi).boot⟩⟩

/-- Settles O59: reset is one state, and each bound is computed there. -/
theorem invariantsHoldAtReset : Obligations.InvariantsHoldAtReset := by
  refine ⟨⟨by decide, fun sub => ?_⟩, ?_, ?_, rfl⟩
  · cases sub <;> decide
  · unfold MemoryCanonical
    decide
  · unfold FieldRanges
    decide

/-- Settles O60: reset is one state, and each field is read off it. -/
theorem resetValues : Obligations.ResetValues := by
  refine ⟨rfl, fun sub => by cases sub <;> rfl, ?_⟩
  decide

end Sys2Proof.Machine
end

section
/-! SUPPORT. How a bus command runs once its subsystems are reconciled (R170-R175), and the I/O addresses and window
registers that are not the block's own (R57, R58, R192-R194, R446). -/

namespace Sys2Proof.Machine

open Sys2Proof.Safety

/-! ## Bus commands on the reconciled state -/

theorem current_cpuPc (s : State) : (current s).cpuPc = s.cpuPc :=
  (congrArg State.cpuPc (reconcileAll_only (begun s))).trans rfl

theorem current_doubleSpeed (s : State) : (current s).doubleSpeed = s.doubleSpeed :=
  (congrArg State.doubleSpeed (reconcileAll_only (begun s))).trans rfl

theorem regionRead_fault (a : Addr) (s : State) : (regionRead a s).2.fault = s.fault :=
  (congrArg State.fault (regionRead_only a s)).trans rfl

/-- RD8 and RDREG8 answer the region's byte (R170, R172). -/
theorem exec_readsBus {s : State} {i : Instr} {a : Addr} (hs : CpuMay s) (hi : ReadsBus i a) :
    exec i s = .next { (regionRead a (current s)).2 with response := some (.byte (regionRead a (current s)).1) } := by
  have hexec : exec i s = .next (command (readCommand a) s) := by
    obtain rfl | rfl := hi
    · rfl
    · rfl
  have hfault : (regionRead a (current s)).2.fault = none :=
    (regionRead_fault a _).trans ((current_fault s).trans hs.1)
  rw [hexec, command_ready hs.1, readCommand, unlessGdma_free (s := begun s) hs.2]
  exact congrArg _ (respond_ready hfault)

/-- WR8 and WRREG8 write the region and mark the break (R171, R173, R175). -/
theorem exec_writesBus {s : State} {i : Instr} {a : Addr} {v : Byte} (hs : CpuMay s) (hi : WritesBus i a v) :
    exec i s = .next (markBreak a (regionWrite a v (current s))) := by
  have hexec : exec i s = .next (command (writeCommand a v) s) := by
    obtain rfl | rfl := hi
    · rfl
    · rfl
  rw [hexec, command_ready hs.1, writeCommand, unlessGdma_free (s := begun s) hs.2]
  rfl

/-- Bits 15:12 of an address. -/
theorem toNat_topNibble (a : Addr) : (a.extractLsb' 12 4).toNat = a.toNat / 0x1000 := by
  have h := a.isLt
  simp only [BitVec.extractLsb'_toNat, Nat.shiftRight_eq_div_pow]
  omega

theorem regionOf_io {a : Addr} (hlo : 0xFF00 ≤ a.toNat) (hhi : a.toNat ≤ 0xFF7F) : regionOf a = .io := by
  have htop : a.toNat / 0x1000 = 0xF := by omega
  unfold regionOf
  simp only [toNat_topNibble, htop]
  rw [if_neg (by omega), if_neg (by omega), if_neg (by omega), if_pos hhi]

theorem regionOf_eram {a : Addr} (hlo : 0xA000 ≤ a.toNat) (hhi : a.toNat ≤ 0xBFFF) : regionOf a = .eram := by
  have htop : a.toNat / 0x1000 = 0xA ∨ a.toNat / 0x1000 = 0xB := by omega
  unfold regionOf
  obtain h | h := htop <;> simp only [toNat_topNibble, h]

theorem regionRead_free {s : State} {a : Addr} (h : ¬ conflicts s a) : regionRead a s = regionValue a s := by
  unfold regionRead
  rw [if_neg]
  simpa [conflicts] using h

theorem regionRead_io {a : Addr} (hlo : 0xFF00 ≤ a.toNat) (hhi : a.toNat ≤ 0xFF7F) (s : State) :
    regionRead a s = ioRead a s := by
  rw [regionRead_free fun h => absurd h.2.2 (Nat.not_lt.2 hlo)]
  simp only [regionValue, regionOf_io hlo hhi]

theorem regionWrite_io {a : Addr} (hlo : 0xFF00 ≤ a.toNat) (hhi : a.toNat ≤ 0xFF7F) (v : Byte) (s : State) :
    regionWrite a v s = ioWrite a v s := by
  simp only [regionWrite, regionOf_io hlo hhi]

theorem markBreak_io {a : Addr} (hlo : 0xFF00 ≤ a.toNat) (hhi : a.toNat ≤ 0xFF7F) (s : State) :
    markBreak a s = { s with breakFlag := true } :=
  if_pos (by simp [breaksBurst, hlo, hhi])

/-- A write below the I/O page ends no burst (R175). -/
theorem markBreak_below {a : Addr} (h : a.toNat < 0xFF00) (s : State) : markBreak a s = s := by
  have hne : a ≠ 0xFFFF#16 := fun he => by simp [he] at h
  exact if_neg (by simp [breaksBurst, hne]; omega)

/-- What an address names depends on the family and the claims alone. -/
theorem ioRegOf_congr {s t : State} (hf : t.family = s.family) (hp : t.params = s.params) (a : Addr) :
    ioRegOf t a = ioRegOf s a := by
  unfold ioRegOf
  rw [hf, hp]

theorem ioRegOf_current (s : State) (a : Addr) : ioRegOf (current s) a = ioRegOf s a :=
  ioRegOf_congr (current_family s) (current_params s) a

theorem present_current (s : State) (c : Collab) : present (current s) c = present s c := by
  cases c <;> simp only [present, current_params]

/-- A read of an I/O address answers `io_read` of the reconciled state (R190). -/
theorem exec_readsIo {s : State} {i : Instr} {a : Addr} (hs : CpuMay s) (hlo : 0xFF00 ≤ a.toNat)
    (hhi : a.toNat ≤ 0xFF7F) (hi : ReadsBus i a) :
    exec i s = .next { (ioRead a (current s)).2 with response := some (.byte (ioRead a (current s)).1) } := by
  rw [exec_readsBus hs hi, regionRead_io hlo hhi]

/-- A write to an I/O address is `io_write` on the reconciled state, and a break (R175, R191). -/
theorem exec_writesIo {s : State} {i : Instr} {a : Addr} {v : Byte} (hs : CpuMay s) (hlo : 0xFF00 ≤ a.toNat)
    (hhi : a.toNat ≤ 0xFF7F) (hi : WritesBus i a v) :
    exec i s = .next { ioWrite a v (current s) with breakFlag := true } := by
  rw [exec_writesBus hs hi, regionWrite_io hlo hhi, markBreak_io hlo hhi]

/-! ## Which register an address names -/

theorem registerOfBoth_iff (a : Addr) :
    RegisterOfBoth a ↔ (0xFF00 ≤ a.toNat ∧ a.toNat ≤ 0xFF02) ∨ (0xFF04 ≤ a.toNat ∧ a.toNat ≤ 0xFF07) ∨
      a.toNat = 0xFF0F ∨ (0xFF10 ≤ a.toNat ∧ a.toNat ≤ 0xFF26) ∨ (0xFF30 ≤ a.toNat ∧ a.toNat ≤ 0xFF3F) ∨
      (0xFF40 ≤ a.toNat ∧ a.toNat ≤ 0xFF4B) ∨ a.toNat = 0xFF50 := by
  simp [RegisterOfBoth, BitVec.toNat_eq]

theorem registerOfCgb_iff (a : Addr) :
    RegisterOfCgb a ↔ a.toNat = 0xFF4D ∨ a.toNat = 0xFF4F ∨ (0xFF51 ≤ a.toNat ∧ a.toNat ≤ 0xFF55) ∨
      (0xFF68 ≤ a.toNat ∧ a.toNat ≤ 0xFF6B) ∨ a.toNat = 0xFF70 := by
  simp [RegisterOfCgb, BitVec.toNat_eq]

/-- Away from the rows both families have, the common table of R56 and R57 names nothing. -/
theorem ioRegCommon_none {a : Addr} (hhi : a.toNat ≤ 0xFF7F) (h : ¬ RegisterOfBoth a) :
    ioRegCommon a.toNat = none := by
  rw [registerOfBoth_iff] at h
  unfold ioRegCommon
  repeat rw [if_neg (by omega)]

theorem ioRegCgb_eq_none_iff (a : Addr) : ioRegCgb a.toNat = none ↔ ¬ RegisterOfCgb a := by
  rw [registerOfCgb_iff]
  constructor
  · intro h
    simp only [ioRegCgb, ite_eq_iff, reduceCtorEq, and_false, false_or] at h
    omega
  · intro h
    unfold ioRegCgb
    repeat rw [if_neg (by omega)]

theorem not_registerOfBoth_of_cgb {a : Addr} (h : RegisterOfCgb a) : ¬ RegisterOfBoth a ∧ a.toNat ≤ 0xFF7F := by
  rw [registerOfCgb_iff] at h
  rw [registerOfBoth_iff]
  omega

theorem ioRegOf_common {s : State} {a : Addr} {r : IoReg} (h : ioRegCommon a.toNat = some r) : ioRegOf s a = r := by
  simp only [ioRegOf, h]

theorem ioRegCommon_serial {n : Nat} (h : 0xFF01 ≤ n ∧ n ≤ 0xFF02) : ioRegCommon n = some (.collab .serial) := by
  unfold ioRegCommon
  repeat rw [if_neg (by omega)]
  exact if_pos h

theorem ioRegCommon_sound {n : Nat} (h : (0xFF10 ≤ n ∧ n ≤ 0xFF26) ∨ (0xFF30 ≤ n ∧ n ≤ 0xFF3F)) :
    ioRegCommon n = some (.collab .sound) := by
  unfold ioRegCommon
  repeat rw [if_neg (by omega)]
  exact if_pos h

theorem ioRegCommon_ppu {n : Nat} (h : (0xFF40 ≤ n ∧ n ≤ 0xFF45) ∨ (0xFF47 ≤ n ∧ n ≤ 0xFF4B)) :
    ioRegCommon n = some (.collab .ppu) := by
  unfold ioRegCommon
  repeat rw [if_neg (by omega)]
  exact if_pos h

/-- The palette registers are the PPU's on the CGB family. -/
theorem ioRegOf_palette {s : State} {a : Addr} (hf : s.family = .cgb) (h : 0xFF68 ≤ a.toNat ∧ a.toNat ≤ 0xFF6B) :
    ioRegOf s a = .collab .ppu := by
  have hc : ioRegCommon a.toNat = none := ioRegCommon_none (by omega) (by rw [registerOfBoth_iff]; omega)
  have hg : ioRegCgb a.toNat = some (.collab .ppu) := by
    unfold ioRegCgb
    repeat rw [if_neg (by omega)]
    exact if_pos h
  simp only [ioRegOf, hc, hg, hf]

theorem ioRegOf_cgbOnDmg {s : State} {a : Addr} (hf : s.family = .dmg) (h : RegisterOfCgb a) :
    ioRegOf s a = .unrecognized := by
  obtain ⟨hboth, hhi⟩ := not_registerOfBoth_of_cgb h
  obtain ⟨r, hr⟩ := Option.ne_none_iff_exists'.1 fun hn => (ioRegCgb_eq_none_iff a).1 hn h
  simp only [ioRegOf, ioRegCommon_none hhi hboth, hf, hr]

/-- The claims of this family's collaborators (R57). -/
def familyClaims (s : State) : List (Addr × Collab) := if s.family = .cgb then s.params.claimsCgb else s.params.claimsDmg

/-- An address without a row in R56 and R57 goes by the claims. -/
theorem ioRegOf_claimed {s : State} {a : Addr} (hhi : a.toNat ≤ 0xFF7F) (hb : ¬ RegisterOfBoth a)
    (hc : ¬ RegisterOfCgb a) : ioRegOf s a = claimed (familyClaims s) a := by
  cases hf : s.family <;> simp [ioRegOf, ioRegCommon_none hhi hb, (ioRegCgb_eq_none_iff a).2 hc, familyClaims, hf]

theorem claimed_none {claims : List (Addr × Collab)} {a : Addr} (h : ∀ p ∈ claims, p.1 ≠ a) :
    claimed claims a = .unrecognized := by
  have hf : claims.find? (fun c => c.1 == a) = none := by simpa [List.find?_eq_none] using h
  simp only [claimed, hf]

theorem claimed_some {claims : List (Addr × Collab)} {a : Addr} {c : Collab} (h : (a, c) ∈ claims)
    (hu : ∀ p ∈ claims, p.1 = a → p.2 = c) : claimed claims a = .collab c := by
  cases hf : claims.find? (fun c => c.1 == a) with
  | none => exact absurd (List.find?_eq_none.1 hf (a, c) h) (by simp)
  | some p =>
    have hp : p.2 = c := hu p (List.mem_of_find?_eq_some hf) (by simpa using List.find?_some hf)
    simp only [claimed, hf, hp]

/-! ## Register handlers of a supplied collaborator -/

/-- Whose an I/O address is, and which bytes it has there, an update of a collaborator's own state leaves. -/
theorem shadowKept_setCollabState (s : State) (c d : Collab) (x : CollabCore) (bytes : List (Addr × Byte)) (m : Mem) :
    ShadowKept (setCollabState d x s) c bytes m ↔ ShadowKept s c bytes m := by
  cases d <;> exact Iff.rfl

/-- A handler keeps its bytes beside its own state. -/
theorem shadowKept_keepShadow (s : State) (c : Collab) (x : CollabCore) (bytes : List (Addr × Byte)) :
    ShadowKept s c bytes (keepShadow c bytes (setCollabState c x s)).ioShadow :=
  (shadowKept_setCollabState s c c x bytes _).1 (shadowKept_keptShadow _ c bytes)

theorem collabRead_absent {s : State} {c : Collab} (h : present s c = false) (a : Addr) :
    collabRead c a s = drawByte s := by
  simp only [collabRead, h, Bool.false_eq_true, if_false]

theorem collabRead_present {s : State} {c : Collab} (h : present s c = true) (a : Addr) :
    collabRead c a s = (Config.collabRead c (collabState c s).core (ownShadow c s) a,
      if Config.collabReadDeclares c a then collabReadEffect c a s else s) := by
  simp only [collabRead, h, if_true]

theorem collabWrite_absent {s : State} {c : Collab} (h : present s c = false) (a : Addr) (v : Byte) :
    collabWrite c a v s = s := by
  simp only [collabWrite, h, Bool.false_eq_true, if_false]

theorem ioRead_collab {s : State} {c : Collab} {a : Addr} (h : ioRegOf s a = .collab c) :
    ioRead a s = collabRead c a s := by
  simp only [ioRead, h]

theorem ioWrite_collab {s : State} {c : Collab} {a : Addr} (h : ioRegOf s a = .collab c) (v : Byte) :
    ioWrite a v s = collabWrite c a v s := by
  simp only [ioWrite, h]

/-- What a write handler's own part of the block is left with: `w` is what the handler gives. -/
def handlerWrote (c : Collab) (a : Addr) (v : Byte) (w : CollabWrite) (s : State) : State :=
  joypadIrq c w.irq (ppuAfterWrite c a v (keepShadow c w.shadow (setCollabState c w.next s)))

theorem collabWrite_present {s : State} {c : Collab} (h : present s c = true) (a : Addr) (v : Byte) :
    collabWrite c a v s = handlerWrote c a v
      (Config.collabWrite c (collabState c s) (ownShadow c s) a v (s.family == .cgb) s.doubleSpeed) s := by
  simp only [collabWrite, h, if_true, handlerWrote]

theorem collabState_setCollabState_core (c : Collab) (x : CollabCore) (s : State) :
    (collabState c (setCollabState c x s)).core = x.core := by
  cases c <;> rfl

/-- The joypad has no wait; every other collaborator stores it. -/
theorem collabState_setCollabState_wait {c : Collab} (hc : c ≠ .joypad) (x : CollabCore) (s : State) :
    (collabState c (setCollabState c x s)).wait = x.wait := by
  revert hc
  cases c <;> simp [collabState, setCollabState]

/-- A collaborator's own state is stored apart from every other's. -/
theorem collabState_setCollabState_other {c d : Collab} (hd : d ≠ c) (x : CollabCore) (s : State) :
    collabState d (setCollabState c x s) = collabState d s := by
  revert hd
  cases c <;> cases d <;> simp [collabState, setCollabState]

/-- Neither the kept bytes, nor the PPU's view, nor IF, nor the break flag are part of a collaborator's own state. -/
theorem collabState_keepShadow (c d : Collab) (bytes : List (Addr × Byte)) (s : State) :
    collabState d (keepShadow c bytes s) = collabState d s := by
  cases d <;> rfl

theorem collabState_ppuAfterWrite (c d : Collab) (a : Addr) (v : Byte) (s : State) :
    collabState d (ppuAfterWrite c a v s) = collabState d s := by
  cases c <;> cases d <;> rfl

theorem collabState_joypadIrq (c d : Collab) (irq : Bool) (s : State) :
    collabState d (joypadIrq c irq s) = collabState d s := by
  cases c <;> cases irq <;> cases d <;> rfl

theorem collabState_breakFlag (d : Collab) (b : Bool) (s : State) :
    collabState d { s with breakFlag := b } = collabState d s := by
  cases d <;> rfl

/-- Through a write handler every collaborator's state is as after storing its own. -/
theorem collabState_handlerWrote (c d : Collab) (a : Addr) (v : Byte) (w : CollabWrite) (s : State) :
    collabState d (handlerWrote c a v w s) = collabState d (setCollabState c w.next s) := by
  rw [handlerWrote, collabState_joypadIrq, collabState_ppuAfterWrite, collabState_keepShadow]

theorem joypadIrq_keeps (c : Collab) (irq : Bool) (s : State) :
    (joypadIrq c irq s).ppu = s.ppu ∧ (joypadIrq c irq s).camera = s.camera ∧
    (joypadIrq c irq s).ioShadow = s.ioShadow := by
  cases c <;> cases irq <;> exact ⟨rfl, rfl, rfl⟩

/-- Only the joypad's handler reaches IF (R289, R447). -/
theorem joypadIrq_ifReg (c : Collab) (irq : Bool) (s : State) :
    (joypadIrq c irq s).ifReg = if c = .joypad ∧ irq = true then s.ifReg ||| 0x10 else s.ifReg := by
  cases c <;> cases irq <;> rfl

theorem ppuAfterWrite_keeps (c : Collab) (a : Addr) (v : Byte) (s : State) :
    (ppuAfterWrite c a v s).camera = s.camera ∧ (ppuAfterWrite c a v s).ioShadow = s.ioShadow ∧
    (ppuAfterWrite c a v s).ifReg = s.ifReg := by
  cases c <;> exact ⟨rfl, rfl, rfl⟩

theorem ppuAfterWrite_ppu {c : Collab} (hc : c ≠ .ppu) (a : Addr) (v : Byte) (s : State) :
    (ppuAfterWrite c a v s).ppu = s.ppu := by
  revert hc
  cases c <;> simp [ppuAfterWrite]

theorem setCollabState_keeps (c : Collab) (x : CollabCore) (s : State) :
    (setCollabState c x s).camera.frame = s.camera.frame ∧ (setCollabState c x s).ifReg = s.ifReg := by
  cases c <;> exact ⟨rfl, rfl⟩

theorem setCollabState_ppu {c : Collab} (hc : c ≠ .ppu) (x : CollabCore) (s : State) :
    (setCollabState c x s).ppu = s.ppu := by
  revert hc
  cases c <;> simp [setCollabState]

/-- A write handler changes the collaborators' states, the bytes it keeps and IF. -/
theorem handlerWrote_frame (c : Collab) (a : Addr) (v : Byte) (w : CollabWrite) (s : State) :
    handlerWrote c a v w s = { s with
      ppu := (handlerWrote c a v w s).ppu, sound := (handlerWrote c a v w s).sound
      serial := (handlerWrote c a v w s).serial, camera := (handlerWrote c a v w s).camera
      joypad := (handlerWrote c a v w s).joypad, ioShadow := (handlerWrote c a v w s).ioShadow
      ifReg := (handlerWrote c a v w s).ifReg } := by
  cases c with
  | joypad => cases h : w.irq <;> simp only [handlerWrote, joypadIrq, h] <;> rfl
  | ppu | sound | serial | camera => rfl

theorem handlerWrote_ppu {c : Collab} (hc : c ≠ .ppu) (a : Addr) (v : Byte) (w : CollabWrite) (s : State) :
    (handlerWrote c a v w s).ppu = s.ppu := by
  rw [handlerWrote, (joypadIrq_keeps c _ _).1, ppuAfterWrite_ppu hc]
  exact setCollabState_ppu hc w.next s

theorem handlerWrote_cameraFrame (c : Collab) (a : Addr) (v : Byte) (w : CollabWrite) (s : State) :
    (handlerWrote c a v w s).camera.frame = s.camera.frame := by
  rw [handlerWrote, (joypadIrq_keeps c _ _).2.1, (ppuAfterWrite_keeps c a v _).1]
  exact (setCollabState_keeps c w.next s).1

theorem handlerWrote_ioShadow (c : Collab) (a : Addr) (v : Byte) (w : CollabWrite) (s : State) :
    (handlerWrote c a v w s).ioShadow = (keepShadow c w.shadow (setCollabState c w.next s)).ioShadow := by
  rw [handlerWrote, (joypadIrq_keeps c _ _).2.2, (ppuAfterWrite_keeps c a v _).2.1]

theorem handlerWrote_ifReg (c : Collab) (a : Addr) (v : Byte) (w : CollabWrite) (s : State) :
    (handlerWrote c a v w s).ifReg = if c = .joypad ∧ w.irq = true then s.ifReg ||| 0x10 else s.ifReg := by
  have hif : (keepShadow c w.shadow (setCollabState c w.next s)).ifReg = s.ifReg := (setCollabState_keeps c w.next s).2
  rw [handlerWrote, joypadIrq_ifReg, (ppuAfterWrite_keeps c a v _).2.2, hif]

/-! ## The window of a Camera cartridge -/

theorem regionRead_window {s : State} {a : Addr} (hf : ¬ conflicts s a) (hlo : 0xA000 ≤ a.toNat)
    (hhi : a.toNat ≤ 0xBFFF) (hm : ∀ m, s.mapper ≠ .mbc6 m) : regionRead a s = windowRead s a.toNat := by
  have hbanked : mapperRead s a.toNat = bankedRead s a.toNat := by
    unfold mapperRead
    split
    · exact absurd ‹_› (hm _)
    all_goals rfl
  rw [regionRead_free hf]
  simp only [regionValue, regionOf_eram hlo hhi, hbanked, bankedRead]
  rw [if_neg (by omega), if_neg (by omega)]

theorem regionWrite_window {a : Addr} (hlo : 0xA000 ≤ a.toNat) (hhi : a.toNat ≤ 0xBFFF) (v : Byte) (s : State) :
    regionWrite a v s = windowWrite s a.toNat v := by
  simp only [regionWrite, regionOf_eram hlo hhi, mapperWrite]
  rw [if_neg (by omega)]

section
variable {s : State} {m : BankRegs} (hm : s.mapper = .camera m) (hr : m.ramEnabled = true)
include hm hr

theorem cameraSelected_camera (a : Addr) : cameraSelected s a.toNat = Config.cameraWindow m a := by
  simp [cameraSelected, hm, cameraAt, hr]

/-- On a Camera cartridge with its RAM enabled a read reaches the camera where its bank registers say so (R446). -/
theorem windowRead_camera (a : Addr) : windowRead s a.toNat =
    if Config.cameraWindow m a then cameraRead a.toNat s else (eramRead s a.toNat, s) := by
  simp only [windowRead, cameraSelected_camera hm hr, hm]

theorem windowWrite_camera (a : Addr) (v : Byte) : windowWrite s a.toNat v =
    if Config.cameraWindow m a then cameraWrite a.toNat v s else eramWrite s a.toNat v := by
  simp only [windowWrite, cameraSelected_camera hm hr, hm]

theorem eramSlot_camera (hb : m.ramBank < s.params.eramBanks) (n : Nat) :
    eramSlot s n = some (m.ramBank * 0x2000 + (n - 0xA000)) := by
  simp [eramSlot, ramBank, hm, hr, hb, eramIndex]

theorem eramRead_camera (hb : m.ramBank < s.params.eramBanks) (n : Nat) :
    eramRead s n = s.eram.read (m.ramBank * 0x2000 + (n - 0xA000)) := by
  simp [eramRead, eramSlot_camera hm hr hb, hm, Mapper.fourBit, Mapper.kind]

theorem eramWrite_camera (hb : m.ramBank < s.params.eramBanks) (n : Nat) (v : Byte) :
    eramWrite s n v = { s with eram := s.eram.write (m.ramBank * 0x2000 + (n - 0xA000)) v } := by
  simp only [eramWrite, eramSlot_camera hm hr hb]

end

theorem cameraRead_present {s : State} (h : s.params.hasCamera = true) (a : Addr) :
    cameraRead a.toNat s = (Config.collabRead .camera s.camera.own.core (ownShadow .camera s) a, s) := by
  simp [cameraRead, h]

theorem cameraRead_absent {s : State} (h : s.params.hasCamera = false) (n : Nat) : cameraRead n s = drawByte s := by
  simp [cameraRead, h]

/-- A write to the camera's registers is its handler's, and raises nothing (log 14). -/
theorem cameraWrite_present {s : State} (h : s.params.hasCamera = true) (a : Addr) (v : Byte) :
    cameraWrite a.toNat v s =
      let w := Config.collabWrite .camera s.camera.own (ownShadow .camera s) a v (s.family == .cgb) s.doubleSpeed
      keepShadow .camera w.shadow (setCollabState .camera w.next s) := by
  simp [cameraWrite, h, setCollabState]

theorem cameraWrite_absent {s : State} (h : s.params.hasCamera = false) (n : Nat) (v : Byte) : cameraWrite n v s = s := by
  simp [cameraWrite, h]

/-! ## The obligation -/

/-- Settles O27: every access runs on the reconciled state, where the tables of R56 and R57 say whose the address is; an
unrecognized one logs, an absent collaborator draws or ignores, a supplied one runs its handler. -/
theorem registersThatAreNotTheBlocks : Obligations.RegistersThatAreNotTheBlocks := by
  refine ⟨?unrecognized, ?tables, ?absent, ?reads, ?writes, ?window⟩
  case unrecognized =>
    intro s i a v hs hlo hhi hreg
    have hreg' : ioRegOf (current s) a = .unrecognized := (ioRegOf_current s a).trans hreg
    refine ⟨fun hi => ?_, fun hi => ?_⟩
    · rw [exec_readsIo hs hlo hhi hi]
      simp only [ioRead, hreg', logAnomaly, current_cpuPc]
    · rw [exec_writesIo hs hlo hhi hi]
      simp only [ioWrite, hreg', logAnomaly, current_cpuPc]
  case tables =>
    intro s a claims hclaims
    refine ⟨fun ha => ioRegOf_common (ha ▸ rfl), fun h => ioRegOf_common (ioRegCommon_serial h),
      fun h => ioRegOf_common (ioRegCommon_sound h), fun h => ioRegOf_common (ioRegCommon_ppu h), ioRegOf_palette,
      ioRegOf_cgbOnDmg, fun _ hhi hb hc => ?_⟩
    rw [ioRegOf_claimed hhi hb hc, familyClaims, ← hclaims]
    exact ⟨claimed_none, fun c => claimed_some⟩
  case absent =>
    intro s i a v c hs hlo hhi hreg hp
    have hreg' : ioRegOf (current s) a = .collab c := (ioRegOf_current s a).trans hreg
    have hp' : present (current s) c = false := (present_current s c).trans hp
    refine ⟨fun hi => ⟨(drawByte (current s)).1, ?_⟩, fun hi => ?_⟩
    · rw [exec_readsIo hs hlo hhi hi, ioRead_collab hreg', collabRead_absent hp']
      rfl
    · rw [exec_writesIo hs hlo hhi hi, ioWrite_collab hreg', collabWrite_absent hp']
  case reads =>
    intro s i a c seen e hs howns hp hi hseen he
    obtain ⟨hlo, hhi, hreg⟩ := howns
    have hreg' : ioRegOf (current s) a = .collab c := (ioRegOf_current s a).trans hreg
    have hp' : present (current s) c = true := (present_current s c).trans hp
    obtain rfl := shadowSeen_unique hseen
    refine ⟨_, exec_readsIo hs hlo hhi hi, ?_⟩
    rw [ioRead_collab hreg', collabRead_present hp']
    refine ⟨rfl, ?_⟩
    split
    · subst he
      exact ⟨rfl, shadowKept_keepShadow _ c _ _⟩
    · rfl
  case writes =>
    intro s i a v c seen w hs howns hp hi hseen hw
    obtain ⟨hlo, hhi, hreg⟩ := howns
    have hreg' : ioRegOf (current s) a = .collab c := (ioRegOf_current s a).trans hreg
    have hp' : present (current s) c = true := (present_current s c).trans hp
    obtain rfl := shadowSeen_unique hseen
    rw [← current_family s, ← current_doubleSpeed s] at hw
    refine ⟨_, exec_writesIo hs hlo hhi hi, ?_⟩
    rw [ioWrite_collab hreg', collabWrite_present hp', ← hw]
    refine ⟨?_, ?_, fun hc => ?_, fun d hd => ?_, fun hc => ?_, ?_, ?_, ?_⟩
    · exact congrArg (fun u : State => { u with breakFlag := true }) (handlerWrote_frame c a v w (current s))
    · rw [collabState_breakFlag, collabState_handlerWrote, collabState_setCollabState_core]
    · rw [collabState_breakFlag, collabState_handlerWrote, collabState_setCollabState_wait hc]
    · rw [collabState_breakFlag, collabState_handlerWrote, collabState_setCollabState_other hd]
    · exact handlerWrote_ppu hc a v w _
    · exact handlerWrote_cameraFrame c a v w _
    · exact (handlerWrote_ioShadow c a v w _).symm ▸ shadowKept_keepShadow _ c w.next w.shadow
    · exact handlerWrote_ifReg c a v w _
  case window =>
    intro s i a v m k seen w hs hf hlo hhi hm hr hb hk hseen hw
    have hm' : (current s).mapper = .camera m := (current_mapper s).trans hm
    have hb' : m.ramBank < (current s).params.eramBanks := by rwa [current_params]
    obtain rfl := shadowSeen_unique hseen
    rw [← current_family s, ← current_doubleSpeed s] at hw
    have hread (hi : ReadsBus i a) := exec_readsBus hs hi
    have hwrite (hi : WritesBus i a v) := exec_writesBus hs hi
    rw [regionRead_window hf hlo hhi (by simp [hm']), windowRead_camera hm' hr, eramRead_camera hm' hr hb',
      ← hk] at hread
    rw [markBreak_below (by omega), regionWrite_window hlo hhi, windowWrite_camera hm' hr,
      eramWrite_camera hm' hr hb', ← hk] at hwrite
    rw [← current_params s]
    refine ⟨fun hi hc => ?_, fun hi hc => ?_, fun hi hc => ?_, fun hi hc => ?_⟩
    · rw [hread hi, cameraRead_present hc]
      split <;> rfl
    · rw [cameraWrite_present hc] at hwrite
      split
      · rename_i hwin
        refine ⟨_, (hwrite hi).trans (congrArg _ (if_pos hwin)), ?_, ?_⟩
        · subst hw
          exact shadowKept_keepShadow _ .camera _ _
        · subst hw
          rfl
      · rename_i hwin
        exact (hwrite hi).trans (congrArg _ (if_neg hwin))
    · refine ⟨(drawByte (current s)).1, ?_⟩
      rw [hread hi, cameraRead_absent hc]
      split <;> rfl
    · rw [hwrite hi, cameraWrite_absent hc]

end Sys2Proof.Machine
end

section
/-! SUPPORT. The regions of the address space (R90-R92), what reconciling leaves alone, and that it brings every subsystem to
the clock (R284). -/

namespace Sys2Proof.Machine

open Sys2Proof.Safety

/-! ## The region of an address -/

theorem regionOf_rom0 {a : Addr} (h : a.toNat ≤ 0x3FFF) : regionOf a = .rom0 := by
  have htop : a.toNat / 0x1000 = 0x0 ∨ a.toNat / 0x1000 = 0x1 ∨ a.toNat / 0x1000 = 0x2 ∨ a.toNat / 0x1000 = 0x3 := by
    omega
  unfold regionOf
  obtain h | h | h | h := htop <;> simp only [toNat_topNibble, h]

theorem regionOf_romX {a : Addr} (h : 0x4000 ≤ a.toNat ∧ a.toNat ≤ 0x7FFF) : regionOf a = .romX := by
  have htop : a.toNat / 0x1000 = 0x4 ∨ a.toNat / 0x1000 = 0x5 ∨ a.toNat / 0x1000 = 0x6 ∨ a.toNat / 0x1000 = 0x7 := by
    omega
  unfold regionOf
  obtain h | h | h | h := htop <;> simp only [toNat_topNibble, h]

theorem regionOf_vram {a : Addr} (h : 0x8000 ≤ a.toNat ∧ a.toNat ≤ 0x9FFF) : regionOf a = .vram := by
  have htop : a.toNat / 0x1000 = 0x8 ∨ a.toNat / 0x1000 = 0x9 := by omega
  unfold regionOf
  obtain h | h := htop <;> simp only [toNat_topNibble, h]

theorem regionOf_wram {a : Addr} (h : 0xC000 ≤ a.toNat ∧ a.toNat ≤ 0xDFFF) : regionOf a = .wram := by
  have htop : a.toNat / 0x1000 = 0xC ∨ a.toNat / 0x1000 = 0xD := by omega
  unfold regionOf
  obtain h | h := htop <;> simp only [toNat_topNibble, h]

/-- From 0xE000 up the second level of the decode compares the full address (R91). -/
theorem regionOf_high {a : Addr} (h : 0xE000 ≤ a.toNat) : regionOf a =
    if a.toNat ≤ 0xFDFF then .echo else if a.toNat ≤ 0xFE9F then .oam else if a.toNat ≤ 0xFEFF then .unusable
    else if a.toNat ≤ 0xFF7F then .io else if a.toNat ≤ 0xFFFE then .hram else .ie := by
  have htop : a.toNat / 0x1000 = 0xE ∨ a.toNat / 0x1000 = 0xF := by omega
  unfold regionOf
  obtain h | h := htop <;> simp only [toNat_topNibble, h]

theorem regionOf_echo {a : Addr} (h : 0xE000 ≤ a.toNat ∧ a.toNat ≤ 0xFDFF) : regionOf a = .echo := by
  rw [regionOf_high h.1, if_pos h.2]

theorem regionOf_oam {a : Addr} (h : 0xFE00 ≤ a.toNat ∧ a.toNat ≤ 0xFE9F) : regionOf a = .oam := by
  rw [regionOf_high (by omega), if_neg (by omega), if_pos h.2]

theorem regionOf_unusable {a : Addr} (h : 0xFEA0 ≤ a.toNat ∧ a.toNat ≤ 0xFEFF) : regionOf a = .unusable := by
  rw [regionOf_high (by omega), if_neg (by omega), if_neg (by omega), if_pos h.2]

theorem regionOf_hram {a : Addr} (h : 0xFF80 ≤ a.toNat ∧ a.toNat ≤ 0xFFFE) : regionOf a = .hram := by
  rw [regionOf_high (by omega), if_neg (by omega), if_neg (by omega), if_neg (by omega), if_neg (by omega), if_pos h.2]

theorem regionOf_ie {a : Addr} (h : a.toNat = 0xFFFF) : regionOf a = .ie := by
  rw [regionOf_high (by omega), if_neg (by omega), if_neg (by omega), if_neg (by omega), if_neg (by omega),
    if_neg (by omega)]

/-- Settles O23: bits 15:12 decide below 0xE000, the full address above. -/
theorem regionsCoverTheAddressSpace : Obligations.RegionsCoverTheAddressSpace := fun _ =>
  ⟨regionOf_rom0, regionOf_romX, regionOf_vram, fun h => regionOf_eram h.1 h.2, regionOf_wram, regionOf_echo,
    regionOf_oam, regionOf_unusable, fun h => regionOf_io h.1 h.2, regionOf_hram, regionOf_ie⟩

/-! ## What reconciling leaves alone -/

/-- A reconciliation leaves every field that no subsystem's advance writes (R289). -/
@[simp] theorem reconcileAll_keeps (s : State) :
    (reconcileAll s).params = s.params ∧ (reconcileAll s).ref = s.ref ∧ (reconcileAll s).segTarget = s.segTarget ∧
    (reconcileAll s).debt = s.debt ∧ (reconcileAll s).burstStart = s.burstStart ∧
    (reconcileAll s).horizon = s.horizon ∧ (reconcileAll s).phase = s.phase ∧ (reconcileAll s).epoch = s.epoch ∧
    (reconcileAll s).breakFlag = s.breakFlag ∧ (reconcileAll s).bootEnabled = s.bootEnabled ∧
    (reconcileAll s).family = s.family ∧ (reconcileAll s).dispatchSet = s.dispatchSet ∧
    (reconcileAll s).renderer = s.renderer ∧ (reconcileAll s).doubleSpeed = s.doubleSpeed ∧
    (reconcileAll s).key1Prepare = s.key1Prepare ∧ (reconcileAll s).ieReg = s.ieReg ∧ (reconcileAll s).ime = s.ime ∧
    (reconcileAll s).haltMode = s.haltMode ∧ (reconcileAll s).cpuPc = s.cpuPc ∧ (reconcileAll s).cpuSp = s.cpuSp ∧
    (reconcileAll s).rom = s.rom ∧ (reconcileAll s).wram = s.wram ∧ (reconcileAll s).hram = s.hram ∧
    (reconcileAll s).ioShadow = s.ioShadow ∧ (reconcileAll s).bootRom = s.bootRom ∧
    (reconcileAll s).bootImage = s.bootImage ∧ (reconcileAll s).vbk = s.vbk ∧ (reconcileAll s).svbk = s.svbk ∧
    (reconcileAll s).mapper = s.mapper ∧ (reconcileAll s).cartRtc = s.cartRtc ∧ (reconcileAll s).joypad = s.joypad ∧
    (reconcileAll s).fault = s.fault ∧ (reconcileAll s).runStart = s.runStart ∧ (reconcileAll s).refused = s.refused ∧
    (reconcileAll s).inputs = s.inputs ∧ (reconcileAll s).response = s.response ∧
    (reconcileAll s).cpuTape = s.cpuTape ∧ (reconcileAll s).cpuCore = s.cpuCore ∧
    (reconcileAll s).cpuReplies = s.cpuReplies := by
  have h : ReconcileOnly s (reconcileAll s) := reconcileAll_only s
  unfold ReconcileOnly at h
  rw [h]
  simp only [and_self]

/-- What every clock of a subsystem and every counter update keeps, a reconciliation keeps. -/
theorem reconcileAll_invariant {P : State → Prop} (htick : ∀ u sub, P u → P (tickSub sub u))
    (hlast : ∀ u sub r, P u → P (setLast sub r u)) {s : State} (h : P s) : P (reconcileAll s) := by
  have hone (c : Nat) (u : State) (sub : Subsystem) (hu : P u) : P (lockOne c u sub) := by
    unfold lockOne
    split
    · exact hlast _ _ _ (htick _ _ hu)
    · exact hu
  have hclock (c : Nat) (u : State) (hu : P u) : P (lockClock c u) := by
    unfold lockClock
    generalize lockOrder = l
    induction l generalizing u with
    | nil => exact hu
    | cons sub l ih => exact ih _ (hone c u sub hu)
  rw [reconcileAll_eq]
  generalize s.ref = r
  suffices hloop : ∀ k, P (lockstep k r s) from hloop r
  intro k
  induction k generalizing s with
  | zero => exact h
  | succ k ih =>
    unfold lockstep
    split
    · exact ih (hclock _ _ h)
    · exact h

/-- A clock of the PPU starts no general DMA and ends none. -/
theorem tickPpu_general (s : State) : (tickPpu s).hdma.mode = .general ↔ s.hdma.mode = .general := by
  have hirqs (e : PpuStep) (ended : Bool) (u : State) : (ppuIrqs e ended u).hdma = u.hdma :=
    (congrArg State.hdma (ppuIrqs_frame e ended u)).trans rfl
  unfold tickPpu
  split
  · split
    · exact Iff.rfl
    · unfold ppuClock
      dsimp only
      split
      · simp only [enterHblank, onHblank_general, hirqs]
      · simp only [hirqs]
  · exact Iff.rfl

/-- The PPU alone reaches the HDMA fields (R289). -/
theorem tickSub_hdma {sub : Subsystem} (h : sub ≠ .ppu) (s : State) : (tickSub sub s).hdma = s.hdma := by
  cases sub with
  | ppu => contradiction
  | timer => exact (congrArg State.hdma (tickTimer_frame s) :)
  | serial => exact (congrArg State.hdma (tickSerial_frame s) :)
  | sound => exact (congrArg State.hdma (tickSound_frame s) :)
  | dma => exact (congrArg State.hdma (tickOdma_frame s) :)
  | camera => exact (congrArg State.hdma (tickCamera_frame s) :)

theorem tickSub_general (sub : Subsystem) (s : State) :
    (tickSub sub s).hdma.mode = .general ↔ s.hdma.mode = .general := by
  by_cases h : sub = .ppu
  · exact h ▸ tickPpu_general s
  · rw [tickSub_hdma h]

/-- A reconciliation starts no general DMA and ends none (R366). -/
theorem reconcileAll_general (s : State) : (reconcileAll s).hdma.mode = .general ↔ s.hdma.mode = .general :=
  reconcileAll_invariant (P := fun u => u.hdma.mode = .general ↔ s.hdma.mode = .general)
    (fun u sub h => (tickSub_general sub u).trans h) (fun _ _ _ h => h) Iff.rfl

theorem cpuMay_current {s : State} (hs : CpuMay s) : CpuMay (current s) :=
  ⟨(current_fault s).trans hs.1, fun h => hs.2 ((reconcileAll_general (begun s)).1 h)⟩

/-- Where a work RAM address lies depends on the family and SVBK alone (R97). -/
theorem wramIndex_congr {s t : State} (hf : t.family = s.family) (hb : t.svbk = s.svbk) (n : Nat) :
    wramIndex t n = wramIndex s n := by
  have hbank : wramBank t = wramBank s := by simp only [wramBank, hf, hb]
  simp only [wramIndex, hbank]

theorem wramIndex_current (s : State) (n : Nat) : wramIndex (current s) n = wramIndex s n :=
  wramIndex_congr (by simp) (by simp) n

/-- So does the VRAM bank on the family and VBK (R95). -/
theorem vramBank_current (s : State) : vramBank (current s) = vramBank s := by
  simp [vramBank]

theorem romCurr_current (s : State) : romCurr (current s) = romCurr s := by
  simp [romCurr]

theorem overlaid_current (s : State) (n : Nat) : overlaid (current s) n = overlaid s n := by
  simp [overlaid]

/-! ## Reconciling brings every subsystem to the clock -/

theorem le_least_iff (l : Lasts) (n : Nat) : n ≤ l.least ↔ ∀ sub : Subsystem, n ≤ l.get sub := by
  constructor
  · intro h sub
    cases sub <;> simp only [Lasts.least, Lasts.get] at h ⊢ <;> omega
  · intro h
    have ht := h .timer
    have hse := h .serial
    have hp := h .ppu
    have hso := h .sound
    have hd := h .dma
    have hc := h .camera
    simp only [Lasts.least, Lasts.get] at *
    omega

theorem tickSub_last (sub : Subsystem) (s : State) : (tickSub sub s).last = s.last :=
  (congrArg State.last (tickSub_only sub s)).trans rfl

/-- A subsystem's part of a lockstep clock moves its own counter alone. -/
theorem lockOne_get (c : Nat) (s : State) (sub b : Subsystem) :
    (lockOne c s sub).last.get b = if b = sub ∧ s.last.get b = c then c + 1 else s.last.get b := by
  unfold lockOne
  by_cases hb : b = sub
  · subst hb
    split
    · rename_i hc
      simp [hc]
    · rename_i hc
      simp [hc]
  · split <;> simp [hb, tickSub_last]

theorem foldl_lockOne_get (c : Nat) {subs : List Subsystem} (hn : subs.Nodup) (s : State) (b : Subsystem) :
    (subs.foldl (lockOne c) s).last.get b = if b ∈ subs ∧ s.last.get b = c then c + 1 else s.last.get b := by
  induction subs generalizing s with
  | nil => simp
  | cons sub rest ih =>
    obtain ⟨hsub, hrest⟩ := List.nodup_cons.1 hn
    rw [List.foldl_cons, ih hrest, lockOne_get]
    by_cases hb : b = sub
    · subst hb
      simp [hsub]
    · simp [hb]

/-- A lockstep clock at `c` moves every counter at `c`, and no other (R284). -/
theorem lockClock_get (c : Nat) (s : State) (b : Subsystem) :
    (lockClock c s).last.get b = if s.last.get b = c then c + 1 else s.last.get b := by
  have hb : b ∈ lockOrder := by cases b <;> decide
  simp only [lockClock, foldl_lockOne_get c (by decide : lockOrder.Nodup), hb, true_and]

/-- The lockstep loop with enough passes brings every counter to its reference (R284). -/
theorem lockstep_get {k r : Nat} {s : State} (hle : ∀ sub, s.last.get sub ≤ r) (hk : r ≤ k + s.last.least)
    (b : Subsystem) : (lockstep k r s).last.get b = r := by
  have hleast (n : Nat) (h : n ≤ s.last.least) (sub : Subsystem) : n ≤ s.last.get sub := (le_least_iff _ n).1 h sub
  induction k generalizing s with
  | zero => exact Nat.le_antisymm (hle b) (hleast r (by omega) b)
  | succ k ih =>
    unfold lockstep
    split
    · rename_i hlt
      have hnext : s.last.least + 1 ≤ (lockClock s.last.least s).last.least := by
        refine (le_least_iff _ _).2 fun sub => ?_
        have := hleast _ le_rfl sub
        rw [lockClock_get]
        split <;> omega
      refine ih (fun sub => ?_) (by omega) fun n h sub => (le_least_iff _ n).1 h sub
      have := hle sub
      rw [lockClock_get]
      split <;> omega
    · rename_i hge
      exact Nat.le_antisymm (hle b) (hleast r (Nat.le_of_not_lt hge) b)

/-- After a reconciliation every subsystem is at the clock. -/
theorem reconcileAll_settled {s : State} (h : CounterBounds s) : Settled (reconcileAll s) := by
  have href : (reconcileAll s).ref = s.ref := by simp
  intro sub
  rw [href, reconcileAll_eq]
  exact lockstep_get h.2 (Nat.le_add_right _ _) sub

/-- A settled state is its own reconciliation. -/
theorem reconcileAll_of_settled {s : State} (h : Settled s) : reconcileAll s = s := by
  have hleast : ¬ s.last.least < s.ref := Nat.not_lt.2 ((le_least_iff _ _).2 fun sub => (h sub).ge)
  rw [reconcileAll_eq]
  generalize hk : s.ref = k
  cases k with
  | zero => rfl
  | succ k => rw [lockstep, if_neg (hk ▸ hleast)]

theorem current_settled {s : State} (h : CounterBounds s) : Settled (current s) := reconcileAll_settled (s := begun s) h

/-- A settled state with an empty port is what a bus access sees. -/
theorem current_of_settled {s : State} (h : Settled s) (hr : s.response = none) : current s = s := by
  have hb : begun s = s := by rw [begun, ← hr]
  rw [current, hb, reconcileAll_of_settled h]

end Sys2Proof.Machine
end

section
/-! SUPPORT. What each region of the block's memory gives to a read and takes from a write (R93-R102, R104-R109), with the
statements about RD8, RDREG8, WR8 and WRREG8 of these regions. -/

namespace Sys2Proof.Machine

open Sys2Proof.Safety

/-! ## Reads of RAM -/

/-- An address `n` below, where that does not wrap. -/
theorem toNat_sub_ofNat {a : Addr} {n : Nat} (h : n ≤ a.toNat) : (a - BitVec.ofNat 16 n).toNat = a.toNat - n := by
  have := a.isLt
  have hn : (BitVec.ofNat 16 n).toNat = n := by rw [BitVec.toNat_ofNat]; omega
  rw [BitVec.toNat_sub_of_le (by rwa [BitVec.le_def, hn]), hn]

theorem regionValue_wram {a : Addr} (h : 0xC000 ≤ a.toNat ∧ a.toNat ≤ 0xDFFF) (s : State) :
    regionValue a s = (s.wram.read (wramIndex s a.toNat), s) := by
  simp only [regionValue, regionOf_wram h, wramRead]

/-- The echo gives the byte 0x2000 below (R98). -/
theorem regionValue_echo {a : Addr} (h : 0xE000 ≤ a.toNat ∧ a.toNat ≤ 0xFDFF) (s : State) :
    regionValue a s = regionValue (a - 0x2000) s := by
  have hsub : (a - 0x2000).toNat = a.toNat - 0x2000 := toNat_sub_ofNat (n := 0x2000) (by omega)
  rw [regionValue_wram (a := a - 0x2000) (by omega), hsub]
  simp only [regionValue, regionOf_echo h, wramRead]

theorem regionValue_unusable {a : Addr} (h : 0xFEA0 ≤ a.toNat ∧ a.toNat ≤ 0xFEFF) (s : State) :
    regionValue a s = (0x00, s) := by
  simp only [regionValue, regionOf_unusable h]

theorem regionValue_hram {a : Addr} (h : 0xFF80 ≤ a.toNat ∧ a.toNat ≤ 0xFFFE) (s : State) :
    regionValue a s = (s.hram.read (a.toNat - 0xFF80), s) := by
  simp only [regionValue, regionOf_hram h]

theorem regionValue_vram {a : Addr} (h : 0x8000 ≤ a.toNat ∧ a.toNat ≤ 0x9FFF) (s : State) :
    regionValue a s = (if vramBlocked s then 0xFF else s.vram.read (vramIndex (vramBank s) (a.toNat - 0x8000)), s) := by
  simp only [regionValue, regionOf_vram h, vramRead]

theorem regionValue_oam {a : Addr} (h : 0xFE00 ≤ a.toNat ∧ a.toNat ≤ 0xFE9F) (s : State) :
    regionValue a s = (if oamBlocked s then 0xFF else s.oam.read (a.toNat - 0xFE00), s) := by
  simp only [regionValue, regionOf_oam h]

/-- VRAM is blocked in mode 3 under STRICT_VRAM (R95). -/
theorem vramBlocked_current (s : State) :
    vramBlocked (current s) = true ↔ s.params.strictVram = true ∧ (current s).ppu.view.mode = .m3 := by
  simp [vramBlocked, and_comm]

/-- OAM is blocked in modes 2 and 3 (R99). -/
theorem oamBlocked_iff (s : State) : oamBlocked s = true ↔ s.ppu.view.mode = .m2 ∨ s.ppu.view.mode = .m3 := by
  simp [oamBlocked]

theorem vramBank_eq (s : State) : vramBank s = if s.family = .cgb then s.vbk.toNat else 0 := by
  cases h : s.family <;> simp [vramBank, h]

/-- A read that only looks: the byte answers, and the state stays as reconciled. -/
theorem exec_readsValue {s : State} {i : Instr} {a : Addr} {b : Byte} (hs : CpuMay s) (hi : ReadsBus i a)
    (hf : ¬ conflicts (current s) a) (hv : regionValue a (current s) = (b, current s)) :
    exec i s = .next { current s with response := some (.byte b) } := by
  rw [exec_readsBus hs hi, regionRead_free hf, hv]

/-- The echo reads as the address 0x2000 below (R98). -/
theorem exec_readsEcho {s : State} {i : Instr} {a : Addr} (hs : CpuMay s) (hi : ReadsBus i a)
    (hf : ¬ conflicts (current s) a) (h : 0xE000 ≤ a.toNat ∧ a.toNat ≤ 0xFDFF) :
    exec i s = exec (.rd8 (a - 0x2000)) s := by
  have hf' : ¬ conflicts (current s) (a - 0x2000) := fun ⟨hconf, hactive, _⟩ => hf ⟨hconf, hactive, by omega⟩
  rw [exec_readsBus hs hi, exec_readsBus hs (.inl rfl), regionRead_free hf, regionRead_free hf', regionValue_echo h]

/-- Settles O24: the region of the address gives the byte, and RAM reads leave the reconciled state. -/
theorem readsOfRam : Obligations.ReadsOfRam := by
  intro s i a hs hi hf
  have hread {b : Byte} (hv : regionValue a (current s) = (b, current s)) := exec_readsValue hs hi hf hv
  have hwram (h : 0xC000 ≤ a.toNat ∧ a.toNat ≤ 0xDFFF) :=
    hread ((regionValue_wram h _).trans (by rw [wramIndex_current]))
  refine ⟨fun h => ?_, fun h hd => ?_, fun h hc => ?_, exec_readsEcho hs hi hf, fun h => hread (regionValue_unusable h _),
    fun h => hread (regionValue_hram h _), fun h hb => hread ?_, fun h hb => hread ?_, fun h hb => hread ?_,
    fun h hb => hread ?_⟩
  · rw [hwram (by omega), wramIndex, if_pos h.2]
  · rw [hwram (by omega), wramIndex, if_neg (by omega)]
    simp only [wramBank, hd, Nat.one_mul]
  · rw [hwram (by omega), wramIndex, if_neg (by omega)]
    simp only [wramBank, hc]
  · rw [regionValue_vram h, if_pos ((vramBlocked_current s).2 hb)]
  · rw [regionValue_vram h, if_neg (mt (vramBlocked_current s).1 hb), vramBank_current, vramBank_eq, vramIndex]
  · rw [regionValue_oam h, if_pos ((oamBlocked_iff _).2 hb)]
  · have hfree : ¬ oamBlocked (current s) = true := by
      rw [oamBlocked_iff]
      obtain hm | hm := hb <;> simp [hm]
    rw [regionValue_oam h, if_neg hfree]

/-! ## Reads of the ROM windows -/

theorem mapperRead_mbc6 {s : State} {m : BankRegs} (h : s.mapper = .mbc6 m) (n : Nat) : mapperRead s n = drawByte s := by
  simp only [mapperRead, h]

theorem mapperRead_banked {s : State} (h : ∀ m, s.mapper ≠ .mbc6 m) (n : Nat) : mapperRead s n = bankedRead s n := by
  unfold mapperRead
  split
  · exact absurd ‹_› (h _)
  all_goals rfl

theorem romRead_present {s : State} {bank : Nat} (h : bank < s.params.romBanks) (off : Nat) :
    romRead s bank off = (s.rom.read (romIndex bank off), s) := if_pos h

theorem rom0Read_boot {s : State} {n : Nat} (he : s.bootEnabled = true) (ho : overlaid s n = true) :
    rom0Read s n = (s.bootRom.read n, s) := if_pos (by rw [he, ho]; rfl)

theorem rom0Read_cartridge {s : State} {n : Nat} (h : s.bootEnabled = false ∨ overlaid s n = false) :
    rom0Read s n = mapperRead s n :=
  if_neg (by obtain h | h := h <;> simp [h])

theorem regionValue_rom0 {a : Addr} (h : a.toNat ≤ 0x3FFF) (s : State) : regionValue a s = rom0Read s a.toNat := by
  simp only [regionValue, regionOf_rom0 h]

theorem regionValue_mapper {a : Addr}
    (h : (0x4000 ≤ a.toNat ∧ a.toNat ≤ 0x7FFF) ∨ (0xA000 ≤ a.toNat ∧ a.toNat ≤ 0xBFFF)) (s : State) :
    regionValue a s = mapperRead s a.toNat := by
  obtain h | h := h
  · simp only [regionValue, regionOf_romX h]
  · simp only [regionValue, regionOf_eram h.1 h.2]

/-- The mappers whose low window shows bank 0 (R453, log 17). -/
theorem romLow_zero {s : State} (h : s.mapper = .none ∨ (∃ m, s.mapper = .mbc1 m ∧ (m.mode = false ∨ m.upper = 0)) ∨
    (∃ m, s.mapper = .mbc3 m) ∨ (∃ m, s.mapper = .mbc5 m)) : romLow s = 0 ∧ ∀ m, s.mapper ≠ .mbc6 m := by
  obtain hm | ⟨m, hm, hmode | hupper⟩ | ⟨m, hm⟩ | ⟨m, hm⟩ := h
  · simp [romLow, hm]
  · simp [romLow, hm, hmode]
  · simp [romLow, hm, hupper]
  · simp [romLow, hm]
  · simp [romLow, hm]

/-- A read that is a draw answers some byte and advances the draw counter (R12). -/
theorem exec_readsDraw {s : State} {i : Instr} {a : Addr} (hs : CpuMay s) (hi : ReadsBus i a)
    (hv : regionRead a (current s) = drawByte (current s)) :
    ∃ b : Byte, exec i s = .next { current s with draws := (current s).draws + 1, response := some (.byte b) } :=
  ⟨(drawByte (current s)).1, by rw [exec_readsBus hs hi, hv]; rfl⟩

theorem regionRead_conflict {s : State} {a : Addr} (h : conflicts s a) : regionRead a s = drawByte s := by
  obtain ⟨hconf, hactive, ha⟩ := h
  exact if_pos (by simp [hconf, hactive, ha])

/-- Settles O25: the overlay first, then the mapper's banks; an MBC6 and the bus conflict draw. -/
theorem readsOfTheRomWindows : Obligations.ReadsOfTheRomWindows := by
  refine ⟨fun s i a hs hi hf => ?_, fun s i a hs hi hc => exec_readsDraw hs hi (regionRead_conflict hc)⟩
  have hread {b : Byte} (hv : regionValue a (current s) = (b, current s)) := exec_readsValue hs hi hf hv
  have hcart (h : s.bootEnabled = false ∨ overlaid s a.toNat = false) :
      rom0Read (current s) a.toNat = mapperRead (current s) a.toNat :=
    rom0Read_cartridge (by simpa [overlaid_current] using h)
  have hboot (hlo : a.toNat ≤ 0x3FFF) (he : s.bootEnabled = true) (ho : overlaid s a.toNat = true) :
      exec i s = .next { current s with response := some (.byte (s.bootRom.read a.toNat)) } :=
    hread (by rw [regionValue_rom0 hlo, rom0Read_boot (by simpa using he) (by rwa [overlaid_current])]; simp)
  refine ⟨fun hlo he => ?_, hboot, fun hlo hov hm hbanks => hread ?_, fun h hm hbank => hread ?_, fun h hm hov => ?_⟩
  · exact hboot (by omega) he (by simp [overlaid, hlo])
  · rw [← current_mapper s] at hm
    obtain ⟨hlow, hne⟩ := romLow_zero hm
    rw [regionValue_rom0 hlo, hcart hov, mapperRead_banked hne, bankedRead, if_pos (by omega),
      romRead_present (by rw [hlow, current_params]; omega), hlow]
    simp [romIndex]
  · rw [← current_mapper s] at hm
    rw [regionValue_mapper (.inl h), mapperRead_banked hm, bankedRead, if_neg (by omega), if_pos (by omega),
      romRead_present (by rwa [romCurr_current, current_params]), romCurr_current]
    simp [romIndex]
  · obtain ⟨m, hm⟩ := hm
    rw [← current_mapper s] at hm
    refine exec_readsDraw hs hi ?_
    rw [regionRead_free hf]
    by_cases hlo : a.toNat ≤ 0x3FFF
    · rw [regionValue_rom0 hlo, hcart (hov.resolve_left (by omega)), mapperRead_mbc6 hm]
    · rw [regionValue_mapper (by omega), mapperRead_mbc6 hm]

/-! ## Writes of RAM -/

theorem regionWrite_wram {a : Addr} (h : 0xC000 ≤ a.toNat ∧ a.toNat ≤ 0xDFFF) (v : Byte) (s : State) :
    regionWrite a v s = { s with wram := s.wram.write (wramIndex s a.toNat) v } := by
  simp only [regionWrite, regionOf_wram h]

/-- The echo takes the byte 0x2000 below (R106). -/
theorem regionWrite_echo {a : Addr} (h : 0xE000 ≤ a.toNat ∧ a.toNat ≤ 0xFDFF) (v : Byte) (s : State) :
    regionWrite a v s = regionWrite (a - 0x2000) v s := by
  have hsub : (a - 0x2000).toNat = a.toNat - 0x2000 := toNat_sub_ofNat (n := 0x2000) (by omega)
  rw [regionWrite_wram (a := a - 0x2000) (by omega), hsub]
  simp only [regionWrite, regionOf_echo h]

theorem regionWrite_hram {a : Addr} (h : 0xFF80 ≤ a.toNat ∧ a.toNat ≤ 0xFFFE) (v : Byte) (s : State) :
    regionWrite a v s = { s with hram := s.hram.write (a.toNat - 0xFF80) v } := by
  simp only [regionWrite, regionOf_hram h]

theorem regionWrite_vram {a : Addr} (h : 0x8000 ≤ a.toNat ∧ a.toNat ≤ 0x9FFF) (v : Byte) (s : State) :
    regionWrite a v s = if s.params.blockWrites && vramBlocked s then s
      else { s with vram := s.vram.write (vramIndex (vramBank s) (a.toNat - 0x8000)) v } := by
  simp only [regionWrite, regionOf_vram h]

theorem regionWrite_oam {a : Addr} (h : 0xFE00 ≤ a.toNat ∧ a.toNat ≤ 0xFE9F) (v : Byte) (s : State) :
    regionWrite a v s = if s.params.blockWrites && oamBlocked s then s
      else { s with oam := s.oam.write (a.toNat - 0xFE00) v } := by
  simp only [regionWrite, regionOf_oam h]

theorem regionWrite_unusable {a : Addr} (h : 0xFEA0 ≤ a.toNat ∧ a.toNat ≤ 0xFEFF) (v : Byte) (s : State) :
    regionWrite a v s = s := by
  simp only [regionWrite, regionOf_unusable h]

theorem breaksBurst_iff (a : Addr) :
    breaksBurst a = true ↔ (0xFF00 ≤ a.toNat ∧ a.toNat ≤ 0xFF7F) ∨ a.toNat = 0xFFFF := by
  simp [breaksBurst, BitVec.toNat_eq]

/-- A write to high RAM ends no burst (R175). -/
theorem markBreak_hram {a : Addr} (h : 0xFF80 ≤ a.toNat ∧ a.toNat ≤ 0xFFFE) (s : State) : markBreak a s = s := by
  exact if_neg (by rw [breaksBurst_iff]; omega)

/-- A write below the I/O page is the region's alone. -/
theorem exec_writesBelow {s : State} {i : Instr} {a : Addr} {v : Byte} (hs : CpuMay s) (hi : WritesBus i a v)
    (h : a.toNat < 0xFF00) : exec i s = .next (regionWrite a v (current s)) := by
  rw [exec_writesBus hs hi, markBreak_below h]

theorem exec_writesWram {s : State} {i : Instr} {a : Addr} {v : Byte} (hs : CpuMay s) (hi : WritesBus i a v)
    (h : 0xC000 ≤ a.toNat ∧ a.toNat ≤ 0xDFFF) :
    exec i s = .next { current s with wram := (current s).wram.write (wramIndex s a.toNat) v } := by
  rw [exec_writesBelow hs hi (by omega), regionWrite_wram h, wramIndex_current]

theorem exec_writesHram {s : State} {i : Instr} {a : Addr} {v : Byte} (hs : CpuMay s) (hi : WritesBus i a v)
    (h : 0xFF80 ≤ a.toNat ∧ a.toNat ≤ 0xFFFE) :
    exec i s = .next { current s with hram := (current s).hram.write (a.toNat - 0xFF80) v } := by
  rw [exec_writesBus hs hi, regionWrite_hram h, markBreak_hram h]

/-- A write to VRAM that the PPU does not block (R104). -/
theorem exec_writesVram {s : State} {i : Instr} {a : Addr} {v : Byte} (hs : CpuMay s) (hi : WritesBus i a v)
    (h : 0x8000 ≤ a.toNat ∧ a.toNat ≤ 0x9FFF)
    (hb : ¬ (s.params.blockWrites = true ∧ s.params.strictVram = true ∧ (current s).ppu.view.mode = .m3)) :
    exec i s = .next { current s with
      vram := (current s).vram.write (vramIndex (vramBank s) (a.toNat - 0x8000)) v } := by
  rw [exec_writesBelow hs hi (by omega), regionWrite_vram h, vramBank_current, if_neg]
  rwa [Bool.and_eq_true, vramBlocked_current, current_params]

/-- A write to OAM that the PPU does not block (R108). -/
theorem exec_writesOam {s : State} {i : Instr} {a : Addr} {v : Byte} (hs : CpuMay s) (hi : WritesBus i a v)
    (h : 0xFE00 ≤ a.toNat ∧ a.toNat ≤ 0xFE9F)
    (hb : ¬ (s.params.blockWrites = true ∧
      ((current s).ppu.view.mode = .m2 ∨ (current s).ppu.view.mode = .m3))) :
    exec i s = .next { current s with oam := (current s).oam.write (a.toNat - 0xFE00) v } := by
  rw [exec_writesBelow hs hi (by omega), regionWrite_oam h, if_neg]
  rwa [Bool.and_eq_true, oamBlocked_iff, current_params]

/-- A write to a canonical array: the byte reads back and every other byte stays. -/
theorem mem_write_spec {m : Mem} (hm : m.wf = true) (k : Nat) (v : Byte) :
    (m.write k v).read k = v ∧ ∀ j, j ≠ k → (m.write k v).read j = m.read j :=
  ⟨mem_read_write_same hm k v, fun _ hj => mem_read_write_other m v hj⟩

/-- Settles O29: the region's array takes the byte at the address's place; a blocked write and the unusable region take
nothing. -/
theorem writesOfRam : Obligations.WritesOfRam := by
  intro s i a v hs hi
  refine ⟨fun h hm => ?wram, fun h => ?echo, fun h hm => ?hram, fun h hm hb => ?vram, fun h hb => ?vramBlocked,
    fun h hm hb => ?oam, fun h hb => ?oamBlocked, fun h => ?unusable⟩
  case wram =>
    obtain ⟨-, -, -, hwf, -⟩ := hm
    exact ⟨_, exec_writesWram hs hi h, rfl, mem_write_spec hwf _ v⟩
  case echo =>
    have hsub : (a - 0x2000).toNat = a.toNat - 0x2000 := toNat_sub_ofNat (n := 0x2000) (by omega)
    rw [exec_writesBelow hs hi (by omega), exec_writesBelow hs (.inl rfl) (by omega), regionWrite_echo h]
  case hram =>
    obtain ⟨-, -, -, -, -, hwf, -⟩ := hm
    exact ⟨_, exec_writesHram hs hi h, rfl, mem_write_spec hwf _ v⟩
  case vram =>
    obtain ⟨-, -, hwf, -⟩ := hm
    exact ⟨_, exec_writesVram hs hi h hb, rfl, mem_write_spec hwf _ v⟩
  case vramBlocked =>
    rw [exec_writesBelow hs hi (by omega), regionWrite_vram h, if_pos]
    rwa [Bool.and_eq_true, vramBlocked_current, current_params]
  case oam =>
    obtain ⟨-, -, -, -, hwf, -⟩ := hm
    exact ⟨_, exec_writesOam hs hi h hb, rfl, mem_write_spec hwf _ v⟩
  case oamBlocked =>
    rw [exec_writesBelow hs hi (by omega), regionWrite_oam h, if_pos]
    rwa [Bool.and_eq_true, oamBlocked_iff, current_params]
  case unusable => rw [exec_writesBelow hs hi (by omega), regionWrite_unusable h]

/-! ## A byte of work RAM written and read back -/

/-- RD8 of a state with nothing left to reconcile (R170). -/
theorem exec_rd8Settled {t : State} {a : Addr} {b : Byte} (ht : CpuMay t) (hset : Settled t) (hr : t.response = none)
    (hf : t.params.oamDmaBusConflict = false) (hv : regionValue a t = (b, t)) :
    exec (.rd8 a) t = .next { t with response := some (.byte b) } := by
  have hcur : current t = t := current_of_settled hset hr
  have hread := exec_readsValue (i := .rd8 a) (a := a) (b := b) ht (.inl rfl)
  rw [hcur] at hread
  exact hread (fun hc => absurd hc.1 (by simp [hf])) hv

/-- Settles O32: the write leaves every subsystem current, so the two reads find the written byte and change nothing. -/
theorem echoReadsTheByteWritten : Obligations.EchoReadsTheByteWritten := by
  intro s a v hs hb hm hf hlo hhi
  obtain ⟨-, -, -, hwf, -⟩ := hm
  have ha : 0xC000 ≤ a.toNat ∧ a.toNat ≤ 0xDFFF := by omega
  refine ⟨_, exec_writesWram hs (.inl rfl) ha, ?_⟩
  generalize ht : ({ current s with wram := (current s).wram.write (wramIndex s a.toNat) v } : State) = t
  have hmay : CpuMay t := ht ▸ cpuMay_current hs
  have hset : Settled t := ht ▸ current_settled hb
  have hport : t.response = none := ht ▸ current_response s
  have hfree : t.params.oamDmaBusConflict = false := by rw [← ht, current_params, hf]
  have hindex : wramIndex t a.toNat = wramIndex s a.toNat := ht ▸ wramIndex_current s a.toNat
  have hvalue : regionValue a t = (v, t) := by
    rw [regionValue_wram ha, hindex, ← ht, mem_read_write_same hwf]
  have hecho : regionValue (a + 0x2000) t = (v, t) := by
    have hadd : (a + 0x2000).toNat = a.toNat + 0x2000 := BitVec.toNat_add_of_lt (by simp; omega)
    rw [regionValue_echo (by omega), BitVec.add_sub_cancel, hvalue]
  exact ⟨exec_rd8Settled hmay hset hport hfree hvalue, exec_rd8Settled hmay hset hport hfree hecho⟩

end Sys2Proof.Machine
end

section
/-! SUPPORT. The cartridge's RAM window (R96, R105, R450-R453): where it is external RAM and nothing else, and which of its
banks stands there. -/

namespace Sys2Proof.Machine

open Sys2Proof.Safety

/-! ## Windows that are external RAM -/

/-- The mapper shows external RAM at every address of the window: no register of its own, no camera, no draws. -/
structure WindowIsRam (s : State) : Prop where
  notMbc6 : ∀ m, s.mapper ≠ .mbc6 m
  read : ∀ n, windowRead s n = (eramRead s n, s)
  write : ∀ n v, windowWrite s n v = eramWrite s n v

theorem eramSlot_present {s : State} {b : Nat} (h : ramBank s = some b) (hb : b < s.params.eramBanks) (n : Nat) :
    eramSlot s n = some (b * 0x2000 + (n - 0xA000)) := by
  simp only [eramSlot, h, if_pos hb]
  rfl

theorem eramSlot_disabled {s : State} (h : ramBank s = none) (n : Nat) : eramSlot s n = none := by
  simp only [eramSlot, h]

theorem eramSlot_absent {s : State} {b : Nat} (h : ramBank s = some b) (hb : s.params.eramBanks ≤ b) (n : Nat) :
    eramSlot s n = none := by
  simp only [eramSlot, h, if_neg (Nat.not_lt.2 hb)]

theorem eramRead_none {s : State} {n : Nat} (h : eramSlot s n = none) : eramRead s n = 0xFF := by
  simp only [eramRead, h]

theorem eramWrite_none {s : State} {n : Nat} (h : eramSlot s n = none) (v : Byte) : eramWrite s n v = s := by
  simp only [eramWrite, h]

theorem eramRead_some {s : State} {n i : Nat} (h : eramSlot s n = some i) :
    eramRead s n = if s.mapper.fourBit then 0xF0 ||| (s.eram.read i &&& 0x0F) else s.eram.read i := by
  simp only [eramRead, h]

theorem eramWrite_some {s : State} {n i : Nat} (h : eramSlot s n = some i) (v : Byte) :
    eramWrite s n v = { s with eram := s.eram.write i v } := by
  simp only [eramWrite, h]

/-- The mappers without a register or a camera in the window. -/
theorem windowIsRam_plain {s : State} (h : s.mapper = .none ∨ (∃ m, s.mapper = .mbc1 m) ∨ (∃ m, s.mapper = .mbc2 m) ∨
    (∃ m, s.mapper = .mbc5 m) ∨ (∃ m, s.mapper = .mmm01 m) ∨ (∃ m, s.mapper = .rumble m)) : WindowIsRam s := by
  obtain h | ⟨m, h⟩ | ⟨m, h⟩ | ⟨m, h⟩ | ⟨m, h⟩ | ⟨m, h⟩ := h <;>
    exact ⟨by simp [h], by simp [windowRead, cameraSelected, h], by simp [windowWrite, cameraSelected, h]⟩

/-- An MBC3 without a clock register selected, or with its RAM disabled. -/
theorem windowIsRam_mbc3 {s : State} {m : Mbc3} (h : s.mapper = .mbc3 m)
    (hsel : ¬ (m.ramEnabled = true ∧ 0x8 ≤ m.select.toNat ∧ m.select.toNat ≤ 0xC)) : WindowIsRam s where
  notMbc6 := by simp [h]
  read n := by simp [windowRead, cameraSelected, h, hsel]
  write n v := by simp [windowWrite, cameraSelected, h, mbc3RamWrite, hsel]

theorem windowIsRam_mbc7 {s : State} {m : Mbc7} (h : s.mapper = .mbc7 m) (hd : m.banks.ramEnabled = false) :
    WindowIsRam s := by
  have hbank : ramBank s = none := by simp [ramBank, h, hd]
  exact ⟨by simp [h], by simp [windowRead, cameraSelected, h, hd, eramRead_none (eramSlot_disabled hbank _)],
    by simp [windowWrite, cameraSelected, h, hd, eramWrite_none (eramSlot_disabled hbank _)]⟩

/-- With its RAM disabled the Camera, too, shows disabled RAM (R450). -/
theorem windowIsRam_camera {s : State} {m : BankRegs} (h : s.mapper = .camera m) (hd : m.ramEnabled = false) :
    WindowIsRam s where
  notMbc6 := by simp [h]
  read n := by simp [windowRead, cameraSelected, cameraAt, h, hd]
  write n v := by simp [windowWrite, cameraSelected, cameraAt, h, hd]

/-- So does a supplied mapper model (R450). -/
theorem windowIsRam_supplied {s : State} {k : MapperKind} {m : BankRegs} (h : s.mapper = .supplied k m)
    (hd : m.ramEnabled = false) : WindowIsRam s where
  notMbc6 := by simp [h]
  read n := by simp [windowRead, cameraSelected, cameraAt, suppliedRegister, h, hd]
  write n v := by simp [windowWrite, cameraSelected, cameraAt, suppliedRegister, h, hd]

/-! ## Which bank stands there -/

theorem window_ramSelected {s : State} {b : Nat} (h : RamSelected s.mapper b) :
    WindowIsRam s ∧ ramBank s = some b ∧ s.mapper.fourBit = false := by
  obtain ⟨hm, rfl⟩ | ⟨m, hm, he, rfl⟩ | ⟨m, hm, he, hsel, rfl⟩ | ⟨m, hm, he, rfl⟩ | ⟨m, hm | hm, he, rfl⟩ := h
  · exact ⟨windowIsRam_plain (by simp [hm]), by simp [ramBank, hm], by simp [hm, Mapper.fourBit, Mapper.kind]⟩
  · exact ⟨windowIsRam_plain (by simp [hm]), by simp [ramBank, hm, he], by simp [hm, Mapper.fourBit, Mapper.kind]⟩
  · exact ⟨windowIsRam_mbc3 hm (by omega), by simp [ramBank, hm, he, hsel], by simp [hm, Mapper.fourBit, Mapper.kind]⟩
  · exact ⟨windowIsRam_plain (by simp [hm]), by simp [ramBank, hm, he], by simp [hm, Mapper.fourBit, Mapper.kind]⟩
  · exact ⟨windowIsRam_plain (by simp [hm]), by simp [ramBank, hm, he], by simp [hm, Mapper.fourBit, Mapper.kind]⟩
  · exact ⟨windowIsRam_plain (by simp [hm]), by simp [ramBank, hm, he], by simp [hm, Mapper.fourBit, Mapper.kind]⟩

theorem window_mbc2 {s : State} {m : BankRegs} (h : s.mapper = .mbc2 m) (he : m.ramEnabled = true) :
    WindowIsRam s ∧ ramBank s = some m.ramBank ∧ s.mapper.fourBit = true :=
  ⟨windowIsRam_plain (by simp [h]), by simp [ramBank, h, he], by simp [h, Mapper.fourBit, Mapper.kind]⟩

theorem window_ramDisabled {s : State} (h : RamDisabled s.mapper) : WindowIsRam s ∧ ramBank s = none := by
  obtain ⟨m, hm, hd⟩ | ⟨m, hm, hd⟩ | ⟨m, hm, hsel⟩ | ⟨m, hm, hd⟩ | ⟨m, hm, hd⟩ | ⟨m, hm, hd⟩ := h
  · exact ⟨windowIsRam_plain (by simp [hm]), by simp [ramBank, hm, hd]⟩
  · exact ⟨windowIsRam_mbc3 hm (by simp [hd]), by simp [ramBank, hm, hd]⟩
  · have habove : ¬ m.select.toNat ≤ 3 := by omega
    exact ⟨windowIsRam_mbc3 hm (by omega), by simp [ramBank, hm, habove]⟩
  · exact ⟨windowIsRam_plain (by simp [hm]), by simp [ramBank, hm, hd]⟩
  · exact ⟨windowIsRam_mbc7 hm hd, by simp [ramBank, hm, hd]⟩
  · obtain hm | hm | hm | hm | ⟨k, hm⟩ := hm
    · exact ⟨windowIsRam_plain (by simp [hm]), by simp [ramBank, hm, hd]⟩
    · exact ⟨windowIsRam_plain (by simp [hm]), by simp [ramBank, hm, hd]⟩
    · exact ⟨windowIsRam_plain (by simp [hm]), by simp [ramBank, hm, hd]⟩
    · exact ⟨windowIsRam_camera hm hd, by simp [ramBank, hm, hd]⟩
    · exact ⟨windowIsRam_supplied hm hd, by simp [ramBank, hm, hd]⟩

/-! ## The round trip -/

/-- A write to a window that is external RAM. -/
theorem exec_writesEram {s : State} {a : Addr} {v : Byte} (hs : CpuMay s) (ha : 0xA000 ≤ a.toNat ∧ a.toNat ≤ 0xBFFF)
    (hw : WindowIsRam (current s)) : exec (.wr8 a v) s = .next (eramWrite (current s) a.toNat v) := by
  rw [exec_writesBelow hs (.inl rfl) (by omega), regionWrite_window ha.1 ha.2, hw.write]

theorem regionValue_eram {s : State} {a : Addr} (ha : 0xA000 ≤ a.toNat ∧ a.toNat ≤ 0xBFFF) (hw : WindowIsRam s) :
    regionValue a s = (eramRead s a.toNat, s) := by
  rw [regionValue_mapper (.inr ha), mapperRead_banked hw.notMbc6, bankedRead, if_neg (by omega), if_neg (by omega), hw.read]

section
variable {s : State} {a : Addr} {v : Byte} (hs : CpuMay s) (hf : s.params.oamDmaBusConflict = false)
  (ha : 0xA000 ≤ a.toNat ∧ a.toNat ≤ 0xBFFF)
include hs hf ha

/-- With bank `b` in the window the byte lands at its place there and reads back, on a 4-bit mapper its low nibble. -/
theorem eram_roundTrip (hb : CounterBounds s) (hm : MemoryCanonical (current s)) {b : Nat} {nibble : Bool}
    (hwin : ∀ t : State, t.mapper = s.mapper → WindowIsRam t ∧ ramBank t = some b ∧ t.mapper.fourBit = nibble)
    (hbank : b < s.params.eramBanks) :
    ∃ t, exec (.wr8 a v) s = .next t ∧ t = { current s with eram := t.eram } ∧
      (∀ j, j ≠ b * 0x2000 + (a.toNat - 0xA000) → t.eram.read j = (current s).eram.read j) ∧
      exec (.rd8 a) t = .next { t with response := some (.byte (if nibble then 0xF0 ||| (v &&& 0x0F) else v)) } := by
  obtain ⟨-, hwf, -⟩ := hm
  obtain ⟨hw, hram, -⟩ := hwin (current s) (current_mapper s)
  have hslot := eramSlot_present hram (by rwa [current_params]) a.toNat
  refine ⟨_, (exec_writesEram hs ha hw).trans (congrArg _ (eramWrite_some hslot v)), rfl,
    (mem_write_spec hwf _ v).2, ?_⟩
  generalize ht : ({ current s with
    eram := (current s).eram.write (b * 0x2000 + (a.toNat - 0xA000)) v } : State) = t
  have hmapper : t.mapper = s.mapper := ht ▸ current_mapper s
  have hparams : t.params = s.params := ht ▸ current_params s
  obtain ⟨hw', hram', hfour⟩ := hwin t hmapper
  have hslot' := eramSlot_present hram' (by rwa [hparams]) a.toNat
  refine exec_rd8Settled (ht ▸ cpuMay_current hs) (ht ▸ current_settled hb) (ht ▸ current_response s)
    (by rw [hparams, hf]) ?_
  rw [regionValue_eram ha hw', eramRead_some hslot', hfour, ← ht, mem_read_write_same hwf]

/-- With nothing in the window a write is ignored and a read answers 0xFF (R450). -/
theorem eram_nothingThere (hw : WindowIsRam (current s)) (hslot : eramSlot (current s) a.toNat = none) :
    exec (.wr8 a v) s = .next (current s) ∧ exec (.rd8 a) s = .next { current s with response := some (.byte 0xFF) } := by
  have hfree : ¬ conflicts (current s) a := fun hc => absurd (current_params s ▸ hc.1) (by simp [hf])
  rw [exec_writesEram hs ha hw, eramWrite_none hslot, exec_readsValue hs (.inl rfl) hfree (regionValue_eram ha hw),
    eramRead_none hslot]
  exact ⟨rfl, rfl⟩

end

/-- Settles O47: by which bank the mapper has in the window, if any. -/
theorem externalRamRoundTrip : Obligations.ExternalRamRoundTrip := by
  intro s a v hs hb hm hf hlo hhi
  have ha : 0xA000 ≤ a.toNat ∧ a.toNat ≤ 0xBFFF := ⟨hlo, hhi⟩
  have hmapper : (current s).mapper = s.mapper := current_mapper s
  have hnothing (hw : WindowIsRam (current s)) (h : eramSlot (current s) a.toNat = none) :=
    eram_nothingThere (v := v) hs hf ha hw h
  refine ⟨fun b hsel hbank => ?_, fun m hmbc2 he hbank => ?_, ?_⟩
  · exact eram_roundTrip hs hf ha hb hm (nibble := false) (fun t ht => window_ramSelected (ht ▸ hsel)) hbank
  · exact eram_roundTrip hs hf ha hb hm (nibble := true) (fun t ht => window_mbc2 (ht.trans hmbc2) he) hbank
  · rw [← current_params s, ← hmapper]
    rintro (⟨b, hsel, hbank⟩ | ⟨m, hmbc2, he, hbank⟩ | hdis)
    · obtain ⟨hw, hram, -⟩ := window_ramSelected hsel
      exact hnothing hw (eramSlot_absent hram hbank _)
    · obtain ⟨hw, hram, -⟩ := window_mbc2 hmbc2 he
      exact hnothing hw (eramSlot_absent hram hbank _)
    · obtain ⟨hw, hram⟩ := window_ramDisabled hdis
      exact hnothing hw (eramSlot_disabled hram _)

end Sys2Proof.Machine
end

section
/-! SUPPORT. The acknowledge sequence (R404, R471-R477) where no subsystem raises anything meanwhile: what the reconciliations
leave, what the two pushes do to RAM, IE and IF, and how the request is resolved. -/

namespace Sys2Proof.Machine

open Sys2Proof.Safety

/-! ## A quiet reconciliation -/

/-- What the subsystems of a quiet state and pushes into work RAM and high RAM may change: the divider, the OAM DMA but for
its register, sound, the camera with external RAM, the bookkeeping; the RAM, IME, the clock and SP. -/
def StackOnly (s t : State) : Prop :=
  t = { s with
    timer := { s.timer with sysClocks := t.timer.sysClocks }, oam := t.oam, odma := { t.odma with reg := s.odma.reg }
    draws := t.draws, sound := t.sound, anomalies := t.anomalies, camera := t.camera, eram := t.eram, last := t.last
    wram := t.wram, hram := t.hram, ime := t.ime, ref := t.ref, cpuSp := t.cpuSp }

theorem StackOnly.trans {s t u : State} (h1 : StackOnly s t) (h2 : StackOnly t u) : StackOnly s u := by
  unfold StackOnly at *
  rw [h2, h1]

theorem StackOnly.quiet {s t : State} (h : StackOnly s t) (hq : Quiet s) : Quiet t := by
  unfold StackOnly at h
  rw [h]
  exact hq

/-- A disabled timer that counts nothing down moves its divider alone (R313). -/
theorem tickTimer_quiet {s : State} (hq : Quiet s) :
    tickTimer s = { s with timer := { s.timer with sysClocks := s.timer.sysClocks + 1 } } := by
  obtain ⟨-, -, htac, hreload, hirq⟩ := hq
  have hsignal : timerSignal s.timer = false := by simp only [timerSignal, htac, Bool.false_and]
  simp [tickTimer, stepReload, stepIrqCd, stepDivider, hsignal, hreload, hirq]

theorem tickOdma_reg (s : State) : (tickOdma s).odma.reg = s.odma.reg := by
  unfold tickOdma odmaClock
  dsimp only
  split
  · split <;> simp only [odmaCopy_odma]
  · rfl

theorem tickSub_quiet {s : State} (hq : Quiet s) (sub : Subsystem) : StackOnly s (tickSub sub s) := by
  obtain ⟨hnoPpu, hnoSerial, -⟩ := id hq
  have hppu : tickPpu s = s := if_neg (by simp [hnoPpu])
  have hserial : tickSerial s = s := if_neg (by simp [hnoSerial])
  unfold StackOnly tickSub
  cases sub with
  | timer =>
    dsimp only
    rw [tickTimer_quiet hq]
  | serial =>
    dsimp only
    rw [hserial]
  | ppu =>
    dsimp only
    rw [hppu]
  | sound =>
    dsimp only
    rw [tickSound_frame s]
  | dma =>
    have hreg := tickOdma_reg s
    have hframe := tickOdma_frame s
    dsimp only
    generalize tickOdma s = t at *
    rw [← hreg, hframe]
  | camera =>
    dsimp only
    rw [tickCamera_frame s]

theorem reconcileAll_quiet {s : State} (hq : Quiet s) : StackOnly s (reconcileAll s) :=
  reconcileAll_invariant (P := StackOnly s) (fun _ sub h => h.trans (tickSub_quiet (h.quiet hq) sub))
    (fun _ _ _ h => h.trans rfl) rfl

/-! ## The requests -/

/-- The state is quiet, and these are its IE and IF. -/
def RequestsAre (ie irqs : Byte) (s : State) : Prop := Quiet s ∧ s.ieReg = ie ∧ s.ifReg = irqs

/-- A reconciliation of a quiet state raises nothing (R289). -/
theorem requestsAre_reconcileAll {ie irqs : Byte} {s : State} (h : RequestsAre ie irqs s) :
    RequestsAre ie irqs (reconcileAll s) := by
  obtain ⟨hq, hie, hif⟩ := h
  have ht := reconcileAll_quiet hq
  refine ⟨ht.quiet hq, by simp [hie], ?_⟩
  exact (congrArg State.ifReg ht).trans hif

theorem requestsAre_current {s : State} (hq : Quiet s) : RequestsAre s.ieReg s.ifReg (current s) :=
  requestsAre_reconcileAll (s := begun s) ⟨hq, rfl, rfl⟩

theorem pendingIrqs_getLsbD (s : State) {j : Nat} (hj : j < 5) :
    (pendingIrqs s).getLsbD j = (s.ifReg.getLsbD j && s.ieReg.getLsbD j) := by
  have hmask : (0x1F : Byte).getLsbD j = true := by interval_cases j <;> rfl
  simp only [pendingIrqs, BitVec.getLsbD_and, hmask, Bool.and_true]

/-- The lowest set bit wins (R476). -/
theorem lowestSource_eq {p : Byte} {k : Nat} (hk : k < 5) (hset : p.getLsbD k = true)
    (hlow : ∀ j, j < k → p.getLsbD j = false) : lowestSource p = k := by
  unfold lowestSource
  interval_cases k <;> simp only [hset, hlow, Nat.reduceLT, if_true, Bool.false_eq_true, if_false]

/-- A request of source `k` with none lower is resolved to `k` (R476, R477). -/
theorem takeVector_lowest {s : State} {k : Nat} (hk : k < 5) (hif : s.ifReg.getLsbD k = true)
    (hie : s.ieReg.getLsbD k = true) (hlow : ∀ j, j < k → ¬ (s.ifReg.getLsbD j = true ∧ s.ieReg.getLsbD j = true)) :
    pendingIrqs s ≠ 0 ∧ takeVector s = { clearIrq k s with cpuPc := vectorOf k } := by
  have hset : (pendingIrqs s).getLsbD k = true := by rw [pendingIrqs_getLsbD s hk, hif, hie]; rfl
  have hne : pendingIrqs s ≠ 0 := fun h => by simp [h] at hset
  have hsource : lowestSource (pendingIrqs s) = k := lowestSource_eq hk hset fun j hj => by
    rw [pendingIrqs_getLsbD s (hj.trans hk)]
    simpa using hlow j hj
  refine ⟨hne, ?_⟩
  simp only [takeVector, if_neg hne, hsource]

/-- The acknowledge clears the IF bit of its source and no other (R477). -/
theorem clearIrq_getLsbD (k : Nat) (s : State) {j : Nat} (hj : j < 8) :
    (clearIrq k s).ifReg.getLsbD j = (s.ifReg.getLsbD j && decide (j ≠ k)) := by
  simp only [clearIrq_ifReg, sourceBit, BitVec.getLsbD_and, BitVec.getLsbD_not, BitVec.getLsbD_ofNat,
    Nat.testBit_two_pow, hj, decide_true, Bool.true_and, ne_eq, decide_not, eq_comm (a := k)]

/-! ## The sequence -/

/-- The push of the PC's high byte, 8 clocks into the sequence (R477). -/
def pushHigh (s : State) : State :=
  busWrite (s.cpuSp - 1) (s.cpuPc.extractLsb' 8 8) { s with ime := false, ref := s.ref + 8 }

/-- The push of its low byte, 4 clocks later. -/
def pushLow (s : State) : State :=
  busWrite (s.cpuSp - 2) (s.cpuPc.extractLsb' 0 8) { pushHigh s with ref := s.ref + 12 }

/-- The state in which the request is resolved. -/
def pushed (s : State) : State := reconcileAll { pushLow s with cpuSp := s.cpuSp - 2 }

theorem busWrite_keeps (a : Addr) (v : Byte) (s : State) :
    (busWrite a v s).params = s.params ∧ (busWrite a v s).ref = s.ref ∧ (busWrite a v s).fault = s.fault ∧
    (busWrite a v s).ime = s.ime ∧ (busWrite a v s).haltMode = s.haltMode ∧ (busWrite a v s).cpuPc = s.cpuPc ∧
    (busWrite a v s).cpuSp = s.cpuSp ∧ (busWrite a v s).family = s.family := by
  have h := busWrite_only a v s
  unfold AccessOnly at h
  rw [h]
  simp only [and_self]

theorem pushHigh_keeps (s : State) :
    (pushHigh s).params = s.params ∧ (pushHigh s).fault = s.fault ∧ (pushHigh s).haltMode = s.haltMode ∧
    (pushHigh s).ime = false ∧ (pushHigh s).cpuPc = s.cpuPc ∧ (pushHigh s).cpuSp = s.cpuSp ∧
    (pushHigh s).family = s.family ∧ (pushHigh s).ref = s.ref + 8 := by
  simp [pushHigh, busWrite_keeps]

theorem pushed_keeps (s : State) :
    (pushed s).params = s.params ∧ (pushed s).fault = s.fault ∧ (pushed s).haltMode = s.haltMode ∧
    (pushed s).ime = false ∧ (pushed s).cpuSp = s.cpuSp - 2 ∧ (pushed s).ref = s.ref + 12 := by
  simp [pushed, pushLow, busWrite_keeps, pushHigh_keeps]

theorem takeVector_frame (s : State) :
    takeVector s = { s with ifReg := (takeVector s).ifReg, cpuPc := (takeVector s).cpuPc } := by
  unfold takeVector clearIrq
  dsimp only
  split <;> rfl

theorem takeVector_keeps (s : State) :
    (takeVector s).params = s.params ∧ (takeVector s).ref = s.ref ∧ (takeVector s).fault = s.fault ∧
    (takeVector s).haltMode = s.haltMode ∧ (takeVector s).ime = s.ime ∧ (takeVector s).cpuSp = s.cpuSp ∧
    (takeVector s).ieReg = s.ieReg ∧ (takeVector s).breakFlag = s.breakFlag ∧ (takeVector s).wram = s.wram ∧
    (takeVector s).hram = s.hram := by
  rw [takeVector_frame s]
  simp only [and_self]

/-- Where the clock has room the sequence runs to its end: the pushes, the jump, 20 clocks (R477). -/
theorem acknowledge_room {s : State} (hf : s.fault = none) (hr : s.ref + 20 ≤ 0x7FFFFFFF) :
    acknowledge s = { takeVector (pushed s) with ref := s.ref + 20 } := by
  obtain ⟨-, hfault, -, -, -, -, -, href⟩ := pushHigh_keeps s
  have htake : (takeVector (pushed s)).ref = s.ref + 12 := by simp only [takeVector_keeps, pushed_keeps]
  have hstart : addClock 8 { s with ime := false } = { s with ime := false, ref := s.ref + 8 } :=
    addClock_room (by show s.ref + 8 ≤ _; omega)
  have hhigh : addClock 4 (pushHigh s) = { pushHigh s with ref := s.ref + 12 } := by
    rw [addClock_room (by omega), href]
  have hend : addClock 8 (takeVector (pushed s)) = { takeVector (pushed s) with ref := s.ref + 20 } := by
    rw [addClock_room (by omega), htake]
  unfold acknowledge
  dsimp only
  rw [hstart, unlessFaulted_ready (s := { s with ime := false, ref := s.ref + 8 }) hf]
  change unlessFaulted (addClock 4 (pushHigh s)) _ = _
  rw [hhigh, unlessFaulted_ready (s := { pushHigh s with ref := s.ref + 12 }) (hfault.trans hf)]
  exact hend

theorem wakeAfterAck_room {s : State} (hh : s.haltMode ≠ .stop) (hr : s.ref + s.params.haltWakeExtra ≤ 0x7FFFFFFF) :
    ∃ r, wakeAfterAck s = { s with haltMode := .run, ref := r } := by
  unfold wakeAfterAck
  split
  · exact ⟨_, addClock_room hr⟩
  · rename_i h
    exact ⟨s.ref, by rw [← h]⟩
  · contradiction

theorem irqDecide_acknowledges {s : State} (hh : s.haltMode ≠ .stop) (hp : pendingIrqs s ≠ 0) (hime : s.ime = true) :
    irqDecide s = unlessFaulted (acknowledge s) wakeAfterAck := by
  unfold irqDecide
  split
  · contradiction
  all_goals rw [if_neg hp, if_pos hime]

/-- IRQCHK decides on the reconciled state and answers the clocks it took (R404). -/
theorem exec_irqchk {s : State} (hs : CpuMay s) : exec .irqchk s =
    .next (respond (.clocks ((irqDecide (current s)).ref - s.ref)) (irqDecide (current s))) := by
  have hexec : exec .irqchk s = .next (command irqCheck s) := rfl
  rw [hexec, command_ready hs.1, irqCheck, unlessGdma_free (s := begun s) hs.2]

/-- IRQCHK of a requesting CPU with IME set, where the clock has room: the acknowledge, and no fault (R404, R478). -/
theorem exec_irqchk_acknowledges {s : State} (hs : CpuMay s) (hh : s.haltMode ≠ .stop) (hime : s.ime = true)
    (hp : pendingIrqs (current s) ≠ 0) (hr : s.ref + 20 + s.params.haltWakeExtra ≤ 0x7FFFFFFF) :
    ∃ r n, exec .irqchk s = .next { takeVector (pushed (current s)) with
      haltMode := .run, ref := r, response := some (.clocks n) } := by
  have hfault : (current s).fault = none := (current_fault s).trans hs.1
  have href : (current s).ref = s.ref := current_ref s
  have hhalt : (current s).haltMode = s.haltMode := by simp
  have hime' : (current s).ime = true := by simp [hime]
  have hack := acknowledge_room hfault (by omega)
  obtain ⟨huparams, hufault, huhalt⟩ : (takeVector (pushed (current s))).params = s.params ∧
      (takeVector (pushed (current s))).fault = none ∧ (takeVector (pushed (current s))).haltMode = s.haltMode := by
    simp only [takeVector_keeps, pushed_keeps, hfault, hhalt, current_params, and_self]
  generalize takeVector (pushed (current s)) = u at *
  obtain ⟨r, hwake⟩ := wakeAfterAck_room (s := { u with ref := (current s).ref + 20 }) (by rwa [← huhalt] at hh)
    (by dsimp only; rw [huparams]; omega)
  have hdecide : irqDecide (current s) = { u with haltMode := .run, ref := r } := by
    rw [irqDecide_acknowledges (hhalt ▸ hh) hp hime', hack,
      unlessFaulted_ready (s := { u with ref := (current s).ref + 20 }) hufault, hwake]
  refine ⟨r, r - s.ref, ?_⟩
  rw [exec_irqchk hs, hdecide, respond_ready (s := { u with haltMode := .run, ref := r }) hufault]

/-! ## Pushes into RAM -/

/-- Work RAM. -/
abbrev InWram (a : Addr) : Prop := 0xC000 ≤ a.toNat ∧ a.toNat ≤ 0xDFFF

/-- High RAM. -/
abbrev InHram (a : Addr) : Prop := 0xFF80 ≤ a.toNat ∧ a.toNat ≤ 0xFFFE

theorem busWrite_wram {a : Addr} (h : InWram a) (v : Byte) (s : State) :
    busWrite a v s = { reconcileAll s with wram := s.wram.write (wramIndex s a.toNat) v } := by
  have hindex : wramIndex (reconcileAll s) a.toNat = wramIndex s a.toNat := wramIndex_congr (by simp) (by simp) _
  rw [busWrite, markBreak_below (by omega), regionWrite_wram h, hindex]
  simp

theorem busWrite_hram {a : Addr} (h : InHram a) (v : Byte) (s : State) :
    busWrite a v s = { reconcileAll s with hram := s.hram.write (a.toNat - 0xFF80) v } := by
  rw [busWrite, markBreak_hram h, regionWrite_hram h]
  simp

theorem stackOnly_busWrite {a : Addr} {s : State} (hq : Quiet s) (h : InWram a ∨ InHram a) (v : Byte) :
    StackOnly s (busWrite a v s) := by
  have hr := reconcileAll_quiet hq
  obtain h | h := h
  · rw [busWrite_wram h]
    exact hr.trans rfl
  · rw [busWrite_hram h]
    exact hr.trans rfl

/-- With both pushes in RAM a quiet state stays quiet but for the stack. -/
theorem stackOnly_pushed {s : State} (hq : Quiet s) (hhi : InWram (s.cpuSp - 1) ∨ InHram (s.cpuSp - 1))
    (hlo : InWram (s.cpuSp - 2) ∨ InHram (s.cpuSp - 2)) : StackOnly s (pushed s) := by
  have hhigh : StackOnly s { pushHigh s with ref := s.ref + 12 } :=
    StackOnly.trans (t := { s with ime := false, ref := s.ref + 8 }) rfl
      ((stackOnly_busWrite (s := { s with ime := false, ref := s.ref + 8 }) hq hhi _).trans rfl)
  have hlow : StackOnly s { pushLow s with cpuSp := s.cpuSp - 2 } :=
    hhigh.trans ((stackOnly_busWrite (hhigh.quiet hq) hlo _).trans rfl)
  exact hlow.trans (reconcileAll_quiet (hlow.quiet hq))

/-- A push into work RAM, where the bank in use is that of `t`. -/
theorem busWrite_wram_fields {s t : State} {a : Addr} (hf : s.family = t.family) (hb : s.svbk = t.svbk) (h : InWram a)
    (v : Byte) : (busWrite a v s).wram = s.wram.write (wramIndex t a.toNat) v ∧ (busWrite a v s).hram = s.hram ∧
      (busWrite a v s).svbk = s.svbk := by
  simp [busWrite_wram h, wramIndex_congr hf hb]

theorem busWrite_hram_fields {a : Addr} (h : InHram a) (v : Byte) (s : State) :
    (busWrite a v s).hram = s.hram.write (a.toNat - 0xFF80) v ∧ (busWrite a v s).wram = s.wram := by
  simp [busWrite_hram h]

/-- The last reconciliation leaves what the pushes wrote. -/
theorem pushed_ram (s : State) : (pushed s).wram = (pushLow s).wram ∧ (pushed s).hram = (pushLow s).hram := by
  simp [pushed]

/-- Pushes into work RAM. -/
theorem pushed_wram {s : State} (hhi : InWram (s.cpuSp - 1)) (hlo : InWram (s.cpuSp - 2)) :
    (pushed s).wram = (s.wram.write (wramIndex s (s.cpuSp - 1).toNat) (s.cpuPc.extractLsb' 8 8)).write
        (wramIndex s (s.cpuSp - 2).toNat) (s.cpuPc.extractLsb' 0 8) ∧
    (pushed s).hram = s.hram := by
  obtain ⟨hwram, hhram⟩ := pushed_ram s
  obtain ⟨-, -, -, -, -, -, hfamily, -⟩ := pushHigh_keeps s
  obtain ⟨hw, hh, hbank⟩ : (pushHigh s).wram = _ ∧ (pushHigh s).hram = _ ∧ (pushHigh s).svbk = _ :=
    busWrite_wram_fields (s := { s with ime := false, ref := s.ref + 8 }) (t := s) rfl rfl hhi _
  obtain ⟨hw', hh', -⟩ : (pushLow s).wram = (pushHigh s).wram.write _ _ ∧ (pushLow s).hram = (pushHigh s).hram ∧ _ :=
    busWrite_wram_fields (s := { pushHigh s with ref := s.ref + 12 }) (t := s) hfamily hbank hlo _
  rw [hwram, hw', hw, hhram, hh', hh]
  exact ⟨rfl, rfl⟩

/-- Pushes into high RAM. -/
theorem pushed_hram {s : State} (hhi : InHram (s.cpuSp - 1)) (hlo : InHram (s.cpuSp - 2)) :
    (pushed s).hram = (s.hram.write ((s.cpuSp - 1).toNat - 0xFF80) (s.cpuPc.extractLsb' 8 8)).write
        ((s.cpuSp - 2).toNat - 0xFF80) (s.cpuPc.extractLsb' 0 8) ∧
    (pushed s).wram = s.wram := by
  obtain ⟨hwram, hhram⟩ := pushed_ram s
  obtain ⟨hh, hw⟩ : (pushHigh s).hram = _ ∧ (pushHigh s).wram = _ := busWrite_hram_fields hhi _ _
  obtain ⟨hh', hw'⟩ : (pushLow s).hram = (pushHigh s).hram.write _ _ ∧ (pushLow s).wram = (pushHigh s).wram :=
    busWrite_hram_fields hlo _ _
  rw [hwram, hw', hw, hhram, hh', hh]
  exact ⟨rfl, rfl⟩

/-- Two bytes written to two places of a canonical array. -/
theorem mem_write_two {m : Mem} (hm : m.wf = true) {i j : Nat} (hij : i ≠ j) (x y : Byte) :
    ((m.write i x).write j y).read i = x ∧ ((m.write i x).write j y).read j = y ∧
    ∀ k, k ≠ i → k ≠ j → ((m.write i x).write j y).read k = m.read k := by
  obtain ⟨hx, hkeep⟩ := mem_write_spec hm i x
  obtain ⟨hy, hkeep'⟩ := mem_write_spec (mem_wf_write hm i x) j y
  exact ⟨(hkeep' i hij).trans hx, hy, fun k hi hj => (hkeep' k hj).trans (hkeep k hi)⟩

/-- Two work RAM addresses in use at once lie apart (R97). -/
theorem wramIndex_ne {s : State} {n m : Nat} (hn : 0xC000 ≤ n ∧ n ≤ 0xDFFF) (hm : 0xC000 ≤ m ∧ m ≤ 0xDFFF)
    (h : n ≠ m) : wramIndex s n ≠ wramIndex s m := by
  have hbank : 1 ≤ wramBank s := by
    unfold wramBank
    split
    · exact Nat.le_max_left _ _
    · exact Nat.le_refl 1
  unfold wramIndex
  split <;> split <;> omega

/-- A stack whose two pushed bytes lie in work RAM. -/
theorem inWram_of_sp {sp : Addr} (h : 0xC002 ≤ sp.toNat ∧ sp.toNat ≤ 0xE000) :
    (sp - 1).toNat = sp.toNat - 1 ∧ (sp - 2).toNat = sp.toNat - 2 ∧ InWram (sp - 1) ∧ InWram (sp - 2) := by
  have h1 : (sp - 1).toNat = sp.toNat - 1 := toNat_sub_ofNat (n := 1) (by omega)
  have h2 : (sp - 2).toNat = sp.toNat - 2 := toNat_sub_ofNat (n := 2) (by omega)
  unfold InWram
  omega

/-- A stack whose two pushed bytes lie in high RAM. -/
theorem inHram_of_sp {sp : Addr} (h : 0xFF82 ≤ sp.toNat) :
    (sp - 1).toNat = sp.toNat - 1 ∧ (sp - 2).toNat = sp.toNat - 2 ∧ InHram (sp - 1) ∧ InHram (sp - 2) := by
  have h1 : (sp - 1).toNat = sp.toNat - 1 := toNat_sub_ofNat (n := 1) (by omega)
  have h2 : (sp - 2).toNat = sp.toNat - 2 := toNat_sub_ofNat (n := 2) (by omega)
  have hbound := sp.isLt
  unfold InHram
  omega

/-- With its stack in RAM a quiet state stays quiet, and changes nothing else but by its subsystems' clocks. -/
theorem stackOnly_pushed_of_sp {s : State} (hq : Quiet s)
    (h : (0xC002 ≤ s.cpuSp.toNat ∧ s.cpuSp.toNat ≤ 0xE000) ∨ 0xFF82 ≤ s.cpuSp.toNat) : StackOnly s (pushed s) := by
  obtain h | h := h
  · obtain ⟨-, -, hhi, hlo⟩ := inWram_of_sp h
    exact stackOnly_pushed hq (.inl hhi) (.inl hlo)
  · obtain ⟨-, -, hhi, hlo⟩ := inHram_of_sp h
    exact stackOnly_pushed hq (.inr hhi) (.inr hlo)

/-- The PC's bytes lie below the stack pointer, and the rest of RAM is as before (R477). -/
theorem pushed_wram_reads {s : State} (hm : s.wram.wf = true) (h : 0xC002 ≤ s.cpuSp.toNat ∧ s.cpuSp.toNat ≤ 0xE000) :
    (pushed s).wram.read (wramIndex s (s.cpuSp.toNat - 1)) = s.cpuPc.extractLsb' 8 8 ∧
    (pushed s).wram.read (wramIndex s (s.cpuSp.toNat - 2)) = s.cpuPc.extractLsb' 0 8 ∧
    (∀ j, j ≠ wramIndex s (s.cpuSp.toNat - 1) → j ≠ wramIndex s (s.cpuSp.toNat - 2) →
      (pushed s).wram.read j = s.wram.read j) ∧
    (pushed s).hram = s.hram := by
  obtain ⟨h1, h2, hhi, hlo⟩ := inWram_of_sp h
  obtain ⟨hw, hh⟩ := pushed_wram hhi hlo
  rw [h1, h2] at hw
  obtain ⟨hr1, hr2, hrest⟩ := mem_write_two hm
    (wramIndex_ne (s := s) (n := s.cpuSp.toNat - 1) (m := s.cpuSp.toNat - 2) (by omega) (by omega) (by omega))
    (s.cpuPc.extractLsb' 8 8) (s.cpuPc.extractLsb' 0 8)
  rw [hw]
  exact ⟨hr1, hr2, hrest, hh⟩

theorem pushed_hram_reads {s : State} (hm : s.hram.wf = true) (h : 0xFF82 ≤ s.cpuSp.toNat) :
    (pushed s).hram.read (s.cpuSp.toNat - 0xFF81) = s.cpuPc.extractLsb' 8 8 ∧
    (pushed s).hram.read (s.cpuSp.toNat - 0xFF82) = s.cpuPc.extractLsb' 0 8 ∧
    (∀ j, j ≠ s.cpuSp.toNat - 0xFF81 → j ≠ s.cpuSp.toNat - 0xFF82 → (pushed s).hram.read j = s.hram.read j) ∧
    (pushed s).wram = s.wram := by
  obtain ⟨h1, h2, hhi, hlo⟩ := inHram_of_sp h
  obtain ⟨hh, hw⟩ := pushed_hram hhi hlo
  rw [h1, h2, Nat.sub_sub, Nat.sub_sub] at hh
  obtain ⟨hr1, hr2, hrest⟩ := mem_write_two hm (i := s.cpuSp.toNat - 0xFF81) (j := s.cpuSp.toNat - 0xFF82) (by omega)
    (s.cpuPc.extractLsb' 8 8) (s.cpuPc.extractLsb' 0 8)
  rw [hh]
  exact ⟨hr1, hr2, hrest, hw⟩

/-- The resolved request leaves the stack's frame. -/
theorem stackOnly_fields {s p u : State} (hp : StackOnly s p) (hu : u = { p with ifReg := u.ifReg, cpuPc := u.cpuPc }) :
    u.ioShadow = s.ioShadow ∧ u.ieReg = s.ieReg ∧ u.vbk = s.vbk ∧ u.svbk = s.svbk ∧ u.mapper = s.mapper ∧
    u.bootEnabled = s.bootEnabled ∧ u.breakFlag = s.breakFlag ∧ u.phase = s.phase ∧ u.hdma = s.hdma ∧
    u.odma.reg = s.odma.reg ∧ u.timer.tma = s.timer.tma ∧ u.timer.tac = s.timer.tac ∧ u.ppu = s.ppu ∧
    u.serial = s.serial ∧ u.joypad = s.joypad ∧ u.key1Prepare = s.key1Prepare ∧ u.doubleSpeed = s.doubleSpeed ∧
    u.family = s.family ∧ u.params = s.params ∧ u.rom = s.rom ∧ u.debt = s.debt := by
  unfold StackOnly at hp
  rw [hu, hp]
  simp only [and_self]

/-- What the resolved request of source `k` reads as (R471, R477). -/
theorem takeVector_reads {s : State} {k : Nat} (hk : k < 5) (hif : s.ifReg.getLsbD k = true)
    (hie : s.ieReg.getLsbD k = true) (hlow : ∀ j, j < k → ¬ (s.ifReg.getLsbD j = true ∧ s.ieReg.getLsbD j = true)) :
    (takeVector s).cpuPc = BitVec.ofNat 16 (0x0040 + 8 * k) ∧
    ∀ j, j < 8 → (takeVector s).ifReg.getLsbD j = (s.ifReg.getLsbD j && decide (j ≠ k)) := by
  rw [(takeVector_lowest hk hif hie hlow).2]
  exact ⟨rfl, fun j hj => clearIrq_getLsbD k s hj⟩

/-! ## Pushes into IE and IF -/

/-- A write that reaches neither the timer nor IE nor IF. -/
def LeavesRequests (s t : State) : Prop :=
  t.params = s.params ∧ t.timer = s.timer ∧ t.ieReg = s.ieReg ∧ t.ifReg = s.ifReg

theorem requestsAre_busWrite {a : Addr} {v ie irqs : Byte} {s : State} (h : RequestsAre ie irqs s)
    (hw : LeavesRequests (reconcileAll s) (regionWrite a v (reconcileAll s))) : RequestsAre ie irqs (busWrite a v s) := by
  obtain ⟨hq, hie, hif⟩ := requestsAre_reconcileAll h
  obtain ⟨hparams, htimer, hie', hif'⟩ := hw
  have hmark (t : State) : RequestsAre ie irqs (markBreak a t) ↔ RequestsAre ie irqs t := by
    unfold markBreak
    split <;> exact Iff.rfl
  refine (hmark _).2 ⟨?_, hie'.trans hie, hif'.trans hif⟩
  unfold Quiet
  rw [hparams, htimer]
  exact hq

/-- A push into IE replaces it (R474). -/
theorem requestsAre_ie {v ie irqs : Byte} {s : State} (h : RequestsAre ie irqs s) :
    RequestsAre v irqs (busWrite 0xFFFF v s) := by
  obtain ⟨hq, -, hif⟩ := requestsAre_reconcileAll h
  exact ⟨hq, rfl, hif⟩

/-- A write to IF replaces bits 4:0 (R473). -/
theorem writeIf_bits (x v : Byte) : (x &&& 0xE0) ||| (v &&& 0x1F) = x.extractLsb' 5 3 ++ v.extractLsb' 0 5 := by
  refine BitVec.eq_of_getLsbD_eq fun i hi => ?_
  have happend : (x.extractLsb' 5 3 ++ v.extractLsb' 0 5 : Byte).getLsbD i = _ := BitVec.getLsbD_append
  rw [happend]
  interval_cases i <;> simp

/-- The five low bits of a byte of an address. -/
theorem lowBits_of_byte (a : Addr) (n : Nat) : (a.extractLsb' n 8).extractLsb' 0 5 = a.extractLsb' n 5 := by
  refine BitVec.eq_of_getLsbD_eq fun i hi => ?_
  simp only [BitVec.getLsbD_extractLsb', hi, Nat.zero_add, decide_true, Bool.true_and]
  rw [decide_eq_true (by omega : i < 8), Bool.true_and]

theorem requestsAre_if {v ie irqs : Byte} {s : State} (h : RequestsAre ie irqs s) :
    RequestsAre ie (irqs.extractLsb' 5 3 ++ v.extractLsb' 0 5) (busWrite 0xFF0F v s) := by
  obtain ⟨hq, hie, hif⟩ := requestsAre_reconcileAll h
  refine ⟨hq, hie, ?_⟩
  rw [← hif, ← writeIf_bits]
  rfl

theorem leavesRequests_hram {a : Addr} (h : InHram a) (v : Byte) (s : State) :
    LeavesRequests s (regionWrite a v s) := by
  rw [regionWrite_hram h]
  exact ⟨rfl, rfl, rfl, rfl⟩

/-- A write to the mapper's bank registers changes the mapper, with draws (R103). -/
theorem bankWrite_frame (a : Nat) (v : Byte) (s : State) :
    bankWrite s a v = { s with mapper := (bankWrite s a v).mapper, draws := (bankWrite s a v).draws } := by
  unfold bankWrite
  split
  case h_4 m _ =>
    unfold mbc3Write latchRtc
    split_ifs
    · rfl
    · rfl
    · rfl
    · split
      · dsimp only
        rw [drawRtc_snd]
      · rfl
    · rfl
  case h_11 k m _ =>
    unfold suppliedWrite
    dsimp only
    rw [drawBytes_snd]
  all_goals rfl

theorem leavesRequests_bank {a : Addr} (h : a.toNat ≤ 0x3FFF) (v : Byte) (s : State) :
    LeavesRequests s (regionWrite a v s) := by
  have hb : regionWrite a v s = bankWrite s a.toNat v := by
    simp only [regionWrite, regionOf_rom0 h, mapperWrite]
    exact if_pos (by omega)
  have hframe := bankWrite_frame a.toNat v s
  rw [hb]
  generalize bankWrite s a.toNat v = t at hframe
  rw [hframe]
  exact ⟨rfl, rfl, rfl, rfl⟩

theorem leavesRequests_unrecognized {a : Addr} (hlo : 0xFF00 ≤ a.toNat) (hhi : a.toNat ≤ 0xFF7F) {s : State}
    (h : ioRegOf s a = .unrecognized) (v : Byte) : LeavesRequests s (regionWrite a v s) := by
  simp only [regionWrite_io hlo hhi, ioWrite, h]
  exact ⟨rfl, rfl, rfl, rfl⟩

/-- Only the joypad's handler reaches IF. -/
theorem leavesRequests_collab {a : Addr} (hlo : 0xFF00 ≤ a.toNat) (hhi : a.toNat ≤ 0xFF7F) {s : State} {c : Collab}
    (hc : c ≠ .joypad) (h : ioRegOf s a = .collab c) (v : Byte) : LeavesRequests s (regionWrite a v s) := by
  rw [regionWrite_io hlo hhi, ioWrite_collab h]
  cases hp : present s c with
  | false =>
    rw [collabWrite_absent hp]
    exact ⟨rfl, rfl, rfl, rfl⟩
  | true =>
    rw [collabWrite_present hp]
    generalize Config.collabWrite c _ _ a v _ _ = w
    have hframe := handlerWrote_frame c a v w s
    have hif := handlerWrote_ifReg c a v w s
    rw [if_neg fun h => hc h.1] at hif
    generalize handlerWrote c a v w s = t at hframe hif
    exact ⟨(congrArg State.params hframe :), (congrArg State.timer hframe :), (congrArg State.ieReg hframe :), hif⟩

/-- A write to the I/O page or to IE ends the burst (R175). -/
theorem busWrite_breaks {a : Addr} (h : breaksBurst a = true) (v : Byte) (s : State) :
    (busWrite a v s).breakFlag = true := by
  rw [busWrite, markBreak, if_pos h]

theorem requestsAre_pushHigh {s : State} {a : Addr} {ie irqs : Byte} (ha : s.cpuSp - 1 = a)
    (h : RequestsAre ie irqs (busWrite a (s.cpuPc.extractLsb' 8 8) { s with ime := false, ref := s.ref + 8 })) :
    RequestsAre ie irqs (pushHigh s) := by
  rw [pushHigh, ha]
  exact h

theorem requestsAre_pushLow {s : State} {a : Addr} {ie irqs : Byte} (ha : s.cpuSp - 2 = a)
    (h : RequestsAre ie irqs (busWrite a (s.cpuPc.extractLsb' 0 8) { pushHigh s with ref := s.ref + 12 })) :
    RequestsAre ie irqs (pushLow s) := by
  rw [pushLow, ha]
  exact h

theorem pushLow_breaks {s : State} {a : Addr} (ha : s.cpuSp - 2 = a) (h : breaksBurst a = true) :
    (pushLow s).breakFlag = true := by
  rw [pushLow, ha]
  exact busWrite_breaks h _ _

/-! ## The obligation -/

/-- The pushes of a stack at the top of the address space or on IF: what IE and IF are when the request is resolved. -/
theorem pushLow_requests {s : State} {ie irqs : Byte} (hq : Quiet s)
    (h : (s.cpuSp = 0x0000 ∧ ie = s.cpuPc.extractLsb' 8 8 ∧ irqs = s.ifReg) ∨
      (s.cpuSp = 0x0001 ∧ ie = s.cpuPc.extractLsb' 0 8 ∧ irqs = s.ifReg) ∨
      (s.cpuSp = 0xFF10 ∧ ioRegOf s 0xFF0E = .unrecognized ∧ ie = s.ieReg ∧
        irqs = s.ifReg.extractLsb' 5 3 ++ s.cpuPc.extractLsb' 8 5) ∨
      (s.cpuSp = 0xFF11 ∧ ie = s.ieReg ∧ irqs = s.ifReg.extractLsb' 5 3 ++ s.cpuPc.extractLsb' 0 5)) :
    RequestsAre ie irqs (pushLow s) ∧ (pushLow s).breakFlag = true := by
  have hstart : RequestsAre s.ieReg s.ifReg { s with ime := false, ref := s.ref + 8 } := ⟨hq, rfl, rfl⟩
  have hio (a : Addr) : ioRegOf (reconcileAll { pushHigh s with ref := s.ref + 12 }) a = ioRegOf s a :=
    ioRegOf_congr (by simp [pushHigh_keeps]) (by simp [pushHigh_keeps]) a
  obtain ⟨hsp, rfl, rfl⟩ | ⟨hsp, rfl, rfl⟩ | ⟨hsp, hun, rfl, rfl⟩ | ⟨hsp, rfl, rfl⟩ := h
  · have hhi : s.cpuSp - 1 = 0xFFFF := by rw [hsp]; rfl
    have hlo : s.cpuSp - 2 = 0xFFFE := by rw [hsp]; rfl
    have hram : InHram 0xFFFE := by decide
    have h1 := requestsAre_pushHigh hhi (requestsAre_ie hstart)
    have hbreak : (pushHigh s).breakFlag = true := by
      rw [pushHigh, hhi]
      exact busWrite_breaks rfl _ _
    refine ⟨requestsAre_pushLow hlo (requestsAre_busWrite h1 (leavesRequests_hram hram _ _)), ?_⟩
    rw [pushLow, hlo, busWrite_hram hram]
    simpa using hbreak
  · have hhi : s.cpuSp - 1 = 0x0000 := by rw [hsp]; rfl
    have hlo : s.cpuSp - 2 = 0xFFFF := by rw [hsp]; rfl
    have h1 := requestsAre_pushHigh hhi (requestsAre_busWrite hstart (leavesRequests_bank (by decide) _ _))
    exact ⟨requestsAre_pushLow hlo (requestsAre_ie h1), pushLow_breaks hlo rfl⟩
  · have hhi : s.cpuSp - 1 = 0xFF0F := by rw [hsp]; rfl
    have hlo : s.cpuSp - 2 = 0xFF0E := by rw [hsp]; rfl
    have h1 := requestsAre_pushHigh hhi (requestsAre_if hstart)
    have h2 := requestsAre_busWrite (s := { pushHigh s with ref := s.ref + 12 }) (v := s.cpuPc.extractLsb' 0 8) h1
      (leavesRequests_unrecognized (by decide) (by decide) ((hio _).trans hun) _)
    rw [lowBits_of_byte] at h2
    exact ⟨requestsAre_pushLow hlo h2, pushLow_breaks hlo rfl⟩
  · have hhi : s.cpuSp - 1 = 0xFF10 := by rw [hsp]; rfl
    have hlo : s.cpuSp - 2 = 0xFF0F := by rw [hsp]; rfl
    have h1 := requestsAre_pushHigh hhi (requestsAre_busWrite hstart
      (leavesRequests_collab (c := .sound) (by decide) (by decide) (by decide) (ioRegOf_common rfl) _))
    have h2 := requestsAre_if (s := { pushHigh s with ref := s.ref + 12 }) (v := s.cpuPc.extractLsb' 0 8) h1
    rw [lowBits_of_byte] at h2
    exact ⟨requestsAre_pushLow hlo h2, pushLow_breaks hlo rfl⟩

/-- Settles O43: the pushes into RAM leave the requests as they are, those into IE and IF change them, and the lowest
request left is taken. -/
theorem acknowledgePushesAndJumps : Obligations.AcknowledgePushesAndJumps := by
  refine ⟨?ram, ?registers⟩
  case ram =>
    intro s k hs hq hm hh hime hk hif hie hlow hroom hsp
    obtain ⟨hq', hie', hif'⟩ := requestsAre_current hq
    obtain ⟨-, -, -, hwwf, -, hhwf, -⟩ := hm
    have hspc : (current s).cpuSp = s.cpuSp := by simp
    have hkept : (current s).wram = s.wram ∧ (current s).hram = s.hram := by simp
    have hstack : StackOnly (begun s) (pushed (current s)) :=
      (reconcileAll_quiet (s := begun s) hq).trans (stackOnly_pushed_of_sp hq' (by rwa [hspc]))
    have hpif : (pushed (current s)).ifReg = s.ifReg := (congrArg State.ifReg hstack :)
    have hpie : (pushed (current s)).ieReg = s.ieReg := (congrArg State.ieReg hstack :)
    have hreq : pendingIrqs (current s) ≠ 0 :=
      (takeVector_lowest hk (by rwa [hif']) (by rwa [hie']) (by rwa [hif', hie'])).1
    obtain ⟨hpc, hbits⟩ := takeVector_reads (s := pushed (current s)) hk (by rwa [hpif]) (by rwa [hpie])
      (by rwa [hpif, hpie])
    rw [hpif] at hbits
    obtain ⟨r, n, hexec⟩ := exec_irqchk_acknowledges hs hh hime hreq hroom
    refine ⟨_, hexec, hpc, hbits, fun hle => ?_, fun hge => ?_,
      (stackOnly_fields (s := begun s) hstack (takeVector_frame _) :)⟩
    · have hreads := pushed_wram_reads hwwf (s := current s) (by rw [hspc]; omega)
      rw [hspc, current_cpuPc, wramIndex_current, wramIndex_current, hkept.1, hkept.2] at hreads
      simpa only [takeVector_keeps] using hreads
    · have hreads := pushed_hram_reads hhwf (s := current s) (by rwa [hspc])
      rw [hspc, current_cpuPc, hkept.1, hkept.2] at hreads
      simpa only [takeVector_keeps] using hreads
  case registers =>
    intro s ie irqs hs hq hh hime hp hroom hsp
    obtain ⟨hq', hie', hif'⟩ := requestsAre_current hq
    have hspc : (current s).cpuSp = s.cpuSp := by simp
    have hreq : pendingIrqs (current s) ≠ 0 := by rwa [pendingIrqs, hif', hie']
    obtain ⟨r, n, hexec⟩ := exec_irqchk_acknowledges hs hh hime hreq hroom
    rw [← hspc, ← current_cpuPc s, ← hie', ← hif', ← ioRegOf_current s] at hsp
    obtain ⟨hlow, hbreak⟩ := pushLow_requests hq' hsp
    obtain ⟨-, hpie, hpif⟩ : RequestsAre ie irqs (pushed (current s)) :=
      requestsAre_reconcileAll (s := { pushLow (current s) with cpuSp := (current s).cpuSp - 2 }) hlow
    have hpbreak : (pushed (current s)).breakFlag = true := by simp [pushed, hbreak]
    have hfault : (takeVector (pushed (current s))).fault = none := by
      simp only [takeVector_keeps, pushed_keeps, current_fault, hs.1]
    have hkept : (takeVector (pushed (current s))).ieReg = ie ∧ (takeVector (pushed (current s))).ime = false ∧
        (takeVector (pushed (current s))).cpuSp = s.cpuSp - 2 ∧
        (takeVector (pushed (current s))).breakFlag = true := by
      simp only [takeVector_keeps, pushed_keeps, hpie, hspc, hpbreak, and_self]
    obtain ⟨huie, huime, husp, hubreak⟩ := hkept
    refine ⟨_, hexec, hfault, huie, huime, rfl, husp, hubreak, fun hz => ?_, fun k hk hif hie hlow' => ?_⟩
    · have hnone : pendingIrqs (pushed (current s)) = 0 := by rw [pendingIrqs, hpif, hpie, hz]
      rw [takeVector, if_pos hnone]
      exact ⟨rfl, hpif⟩
    · have hreads := takeVector_reads (s := pushed (current s)) hk (by rwa [hpif]) (by rwa [hpie])
        (by rwa [hpif, hpie])
      rwa [hpif] at hreads

end Sys2Proof.Machine
end

section
/-! SUPPORT. The decoder and the encoder agree (R140-R148): what the "must be 0" check answers, a word as the packing of its
own fields, and each group of the opcode map both ways. -/

namespace Sys2Proof

open Sys2Proof.Safety

/-! ## The "must be 0" check -/

@[simp] theorem requireZero_true (i : Instr) : requireZero true i = .ok i := rfl

theorem requireZero_eq_ok {ok : Bool} {i j : Instr} : requireZero ok i = .ok j ↔ ok = true ∧ i = j := by
  cases ok <;> simp [requireZero]

@[simp] theorem requireZero_refuses {ok : Bool} {i : Instr} : (∃ e, requireZero ok i = .error e) ↔ ok = false := by
  cases ok <;> simp [requireZero]

/-! ## The fields of a word -/

theorem toNat_opField (w : Word) : (opField w).toNat = w.toNat / 2 ^ 27 := by
  simp only [opField, BitVec.extractLsb'_toNat, Nat.shiftRight_eq_div_pow]
  omega

theorem toNat_subField (w : Word) : (subField w).toNat = w.toNat / 2 ^ 24 % 8 := by
  simp only [subField, BitVec.extractLsb'_toNat, Nat.shiftRight_eq_div_pow]

theorem toNat_dataField (w : Word) : (dataField w).toNat = w.toNat / 2 ^ 16 % 256 := by
  simp only [dataField, BitVec.extractLsb'_toNat, Nat.shiftRight_eq_div_pow]

theorem toNat_addrField (w : Word) : (addrField w).toNat = w.toNat % 2 ^ 16 := by
  simp only [addrField, BitVec.extractLsb'_toNat, Nat.shiftRight_zero]

theorem toNat_countField (w : Word) : (countField w).toNat = w.toNat % 2 ^ 24 := by
  simp only [countField, BitVec.extractLsb'_toNat, Nat.shiftRight_zero]

/-- A word is the packing of its fields op, sub, data and addr. -/
theorem packAddr_fields (w : Word) : packAddr (opField w) (subField w) (dataField w) (addrField w) = w := by
  apply BitVec.eq_of_toNat_eq
  rw [toNat_packAddr, toNat_opField, toNat_subField, toNat_dataField, toNat_addrField]
  omega

/-- A word is the packing of its fields op, sub and `n`. -/
theorem packCount_fields (w : Word) : packCount (opField w) (subField w) (countField w) = w := by
  apply BitVec.eq_of_toNat_eq
  rw [toNat_packCount, toNat_opField, toNat_subField, toNat_countField]
  omega

theorem packAddr_eq {w : Word} {op : BitVec 5} {sub : BitVec 3} {data : Byte} {addr : Addr} (hop : opField w = op)
    (hsub : subField w = sub) (hdata : dataField w = data) (haddr : addrField w = addr) :
    packAddr op sub data addr = w := by
  rw [← hop, ← hsub, ← hdata, ← haddr, packAddr_fields]

theorem packCount_eq {w : Word} {op : BitVec 5} {sub : BitVec 3} {n : Count} (hop : opField w = op)
    (hsub : subField w = sub) (hn : countField w = n) : packCount op sub n = w := by
  rw [← hop, ← hsub, ← hn, packCount_fields]

/-! ## One-bit operands -/

/-- Bits 7:k of a byte are 0 exactly when the byte is below `2 ^ k`. -/
theorem highBits_eq_zero {d : Byte} {k n : Nat} (hkn : k + n = 8) : d.extractLsb' k n = 0#n ↔ d.toNat < 2 ^ k := by
  rw [← BitVec.toNat_inj, BitVec.extractLsb'_toNat, Nat.shiftRight_eq_div_pow]
  have hd : d.toNat < 2 ^ k * 2 ^ n := by rw [← pow_add, hkn]; exact d.isLt
  rw [Nat.mod_eq_of_lt (Nat.div_lt_of_lt_mul hd)]
  exact Nat.div_eq_zero_iff_lt (by positivity)

/-- A byte with bits 7:1 zero is its bit 0 (R146). -/
theorem dataBit_bit0 : ∀ d : Byte, d.extractLsb' 1 7 = 0 → dataBit 0 (d.getLsbD 0) = d := by decide

/-- A byte with bits 7:2 zero is its bits 0 and 1 (R143). -/
theorem dataBit_bits01 : ∀ d : Byte, d.extractLsb' 2 6 = 0 → dataBit 0 (d.getLsbD 0) ||| dataBit 1 (d.getLsbD 1) = d := by
  decide

@[simp] theorem getElem_dataBit (k : Nat) (b : Bool) {j : Nat} (hj : j < 8) : (dataBit k b)[j] = (b && decide (k = j)) := by
  cases b with
  | false => simp [dataBit]
  | true =>
    rw [dataBit, if_pos rfl, BitVec.getElem_eq_testBit_toNat, BitVec.toNat_ofNat, Nat.testBit_mod_two_pow,
      Nat.testBit_two_pow]
    simp [hj]

/-- Above its bit a one-bit operand is 0. -/
theorem highBits_dataBit {k j n : Nat} (b : Bool) (hk : k < j) : (dataBit k b).extractLsb' j n = 0 := by
  ext l hl
  by_cases hj : j + l < 8
  · simp [BitVec.getLsbD_eq_getElem hj, show k ≠ j + l by omega]
  · simp [BitVec.getLsbD_of_ge _ _ (Nat.le_of_not_lt hj)]

/-! ## Every command decodes back -/

/-- Settles O2: the decoder reads back the fields the encoder packs, and each row's "must be 0" fields are 0. -/
theorem decodeInvertsEncode : Obligations.DecodeInvertsEncode := by
  intro i hi
  cases i
  case rdreg8 a | wrreg8 a d =>
    have ha : inRegPage a = true := hi
    simp [encode, decode, ha]
  case poweron m b c =>
    have hhigh : (dataBit 0 b ||| dataBit 1 c).extractLsb' 2 6 = 0 := by
      rw [BitVec.extractLsb'_or, highBits_dataBit b (by omega), highBits_dataBit c (by omega)]
      rfl
    simp [encode, decode, hhigh]
  case cpusetIme b => simp [encode, decode, decodeCpuset, highBits_dataBit]
  all_goals simp [encode, decode, decodeReconcile, decodeNextevt, decodeSubreset, decodeMapperset, decodeCpuset]

/-! ## An accepted word is the encoding -/

/-- An instruction behind a "must be 0" check encodes to `w` if it does where the check holds. -/
theorem encodes_of_requireZero {ok : Bool} {i j : Instr} {w : Word} (h : requireZero ok i = .ok j)
    (hi : ok = true → encode i = w ∧ i.wellFormed = true) : encode j = w ∧ j.wellFormed = true := by
  obtain ⟨hok, rfl⟩ := requireZero_eq_ok.mp h
  exact hi hok

theorem decodeReconcile_encodes {w : Word} {i : Instr} (hop : opField w = 0x0B) (h : decodeReconcile w = .ok i) :
    encode i = w ∧ i.wellFormed = true := by
  unfold decodeReconcile at h
  split at h
  case h_7 => cases h
  all_goals
    next hsub =>
      cases h
      exact ⟨packCount_eq hop (BitVec.eq_of_toNat_eq hsub) rfl, rfl⟩

/-- The rows of NEXTEVT and SUBRESET: op and sub name the command, and the count must be 0. -/
theorem encodes_of_countZero {op : BitVec 5} {sub : BitVec 3} {i j : Instr} {w : Word}
    (h : requireZero (countField w == 0) i = .ok j) (hi : encode i = packCount op sub 0) (hwf : i.wellFormed = true)
    (hop : opField w = op) (hsub : (subField w).toNat = sub.toNat) : encode j = w ∧ j.wellFormed = true := by
  refine encodes_of_requireZero h fun hn => ⟨?_, hwf⟩
  rw [hi, packCount_eq hop (BitVec.eq_of_toNat_eq hsub) (beq_iff_eq.mp hn)]

theorem decodeNextevt_encodes {w : Word} {i : Instr} (hop : opField w = 0x0C) (h : decodeNextevt w = .ok i) :
    encode i = w ∧ i.wellFormed = true := by
  unfold decodeNextevt at h
  split at h
  case h_7 => cases h
  all_goals
    next hsub => exact encodes_of_countZero h rfl rfl hop hsub

theorem decodeSubreset_encodes {w : Word} {i : Instr} (hop : opField w = 0x0D) (h : decodeSubreset w = .ok i) :
    encode i = w ∧ i.wellFormed = true := by
  unfold decodeSubreset at h
  split at h
  case h_7 => cases h
  all_goals
    next hsub => exact encodes_of_countZero h rfl rfl hop hsub

theorem decodeMapperset_encodes {w : Word} {i : Instr} (hop : opField w = 0x10) (h : decodeMapperset w = .ok i) :
    encode i = w ∧ i.wellFormed = true := by
  unfold decodeMapperset at h
  split at h
  case h_11 => cases h
  all_goals
    next hkind =>
      refine encodes_of_requireZero h fun hz => ⟨?_, rfl⟩
      obtain ⟨hsub, haddr⟩ : subField w = 0 ∧ addrField w = 0 := by simpa using hz
      exact packAddr_eq hop hsub (BitVec.eq_of_toNat_eq hkind) haddr

theorem decodeCpuset_encodes {w : Word} {i : Instr} (hop : opField w = 0x11) (h : decodeCpuset w = .ok i) :
    encode i = w ∧ i.wellFormed = true := by
  unfold decodeCpuset at h
  split at h
  case h_1 hsub | h_2 hsub =>
    refine encodes_of_requireZero h fun hd => ⟨?_, rfl⟩
    exact packAddr_eq hop (BitVec.eq_of_toNat_eq hsub) (beq_iff_eq.mp hd) rfl
  case h_3 hsub =>
    refine encodes_of_requireZero h fun hz => ⟨?_, rfl⟩
    obtain ⟨hd, haddr⟩ : (dataField w).extractLsb' 1 7 = 0 ∧ addrField w = 0 := by simpa using hz
    exact packAddr_eq hop (BitVec.eq_of_toNat_eq hsub) (dataBit_bit0 _ hd).symm haddr
  case h_4 hsub =>
    dsimp only at h
    split at h
    case h_4 => cases h
    all_goals
      next hmode =>
        refine encodes_of_requireZero h fun haddr => ⟨?_, rfl⟩
        exact packAddr_eq hop (BitVec.eq_of_toNat_eq hsub) (BitVec.eq_of_toNat_eq hmode) (beq_iff_eq.mp haddr)
  case h_5 => cases h

/-- Settles O3: row by row, the word has the fields that its command's encoding packs. -/
theorem acceptedWordIsTheEncoding : Obligations.AcceptedWordIsTheEncoding := by
  intro w i h
  unfold decode at h
  split at h
  case h_1 hop =>
    refine encodes_of_requireZero h fun hz => ⟨?_, rfl⟩
    obtain ⟨hsub, hd⟩ : subField w = 0 ∧ dataField w = 0 := by simpa using hz
    exact packAddr_eq (BitVec.eq_of_toNat_eq hop) hsub hd rfl
  case h_2 hop =>
    refine encodes_of_requireZero h fun hsub => ⟨?_, rfl⟩
    exact packAddr_eq (BitVec.eq_of_toNat_eq hop) (beq_iff_eq.mp hsub) rfl rfl
  case h_3 hop =>
    dsimp only at h
    split at h
    case isFalse => cases h
    case isTrue hpage =>
      refine encodes_of_requireZero h fun hz => ⟨?_, hpage⟩
      obtain ⟨hsub, hd⟩ : subField w = 0 ∧ dataField w = 0 := by simpa using hz
      exact packAddr_eq (BitVec.eq_of_toNat_eq hop) hsub hd rfl
  case h_4 hop =>
    dsimp only at h
    split at h
    case isFalse => cases h
    case isTrue hpage =>
      refine encodes_of_requireZero h fun hsub => ⟨?_, hpage⟩
      exact packAddr_eq (BitVec.eq_of_toNat_eq hop) (beq_iff_eq.mp hsub) rfl rfl
  case h_5 hop | h_7 hop | h_8 hop | h_10 hop =>
    refine encodes_of_requireZero h fun hz => ⟨?_, rfl⟩
    obtain ⟨hsub, hn⟩ : subField w = 0 ∧ countField w = 0 := by simpa using hz
    exact packCount_eq (BitVec.eq_of_toNat_eq hop) hsub hn
  case h_6 hop | h_9 hop | h_14 hop =>
    refine encodes_of_requireZero h fun hsub => ⟨?_, rfl⟩
    exact packCount_eq (BitVec.eq_of_toNat_eq hop) (beq_iff_eq.mp hsub) rfl
  case h_11 hop => exact decodeReconcile_encodes (BitVec.eq_of_toNat_eq hop) h
  case h_12 hop => exact decodeNextevt_encodes (BitVec.eq_of_toNat_eq hop) h
  case h_13 hop => exact decodeSubreset_encodes (BitVec.eq_of_toNat_eq hop) h
  case h_15 hop =>
    refine encodes_of_requireZero h fun hz => ⟨?_, rfl⟩
    obtain ⟨hd, haddr⟩ : (dataField w).extractLsb' 2 6 = 0 ∧ addrField w = 0 := by simpa using hz
    exact packAddr_eq (BitVec.eq_of_toNat_eq hop) rfl (dataBit_bits01 _ hd).symm haddr
  case h_16 hop => exact decodeMapperset_encodes (BitVec.eq_of_toNat_eq hop) h
  case h_17 hop => exact decodeCpuset_encodes (BitVec.eq_of_toNat_eq hop) h
  case h_18 => cases h

/-! ## The refused words -/

theorem toNat_ne_zero_iff {n : Nat} {x : BitVec n} : x.toNat ≠ 0 ↔ x ≠ 0#n := by
  rw [ne_eq, ne_eq, ← BitVec.toNat_inj, BitVec.toNat_zero]

theorem decodeReconcile_refuses {w : Word} : (∃ e, decodeReconcile w = .error e) ↔ 6 ≤ (subField w).toNat := by
  unfold decodeReconcile
  split
  case h_7 => exact iff_of_true ⟨_, rfl⟩ (by grind)
  all_goals
    next hsub => simp [hsub]

theorem decodeNextevt_refuses {w : Word} :
    (∃ e, decodeNextevt w = .error e) ↔ 6 ≤ (subField w).toNat ∨ countField w ≠ 0 := by
  unfold decodeNextevt
  split
  case h_7 => exact iff_of_true ⟨_, rfl⟩ (by grind)
  all_goals
    next hsub => simp [hsub]

theorem decodeSubreset_refuses {w : Word} :
    (∃ e, decodeSubreset w = .error e) ↔ 6 ≤ (subField w).toNat ∨ countField w ≠ 0 := by
  unfold decodeSubreset
  split
  case h_7 => exact iff_of_true ⟨_, rfl⟩ (by grind)
  all_goals
    next hsub => simp [hsub]

theorem decodeMapperset_refuses {w : Word} :
    (∃ e, decodeMapperset w = .error e) ↔
      10 ≤ (dataField w).toNat ∨ subField w ≠ 0 ∨ addrField w ≠ 0 := by
  unfold decodeMapperset
  split
  case h_11 => exact iff_of_true ⟨_, rfl⟩ (by grind)
  all_goals
    next hkind => simp [hkind, imp_iff_not_or]

theorem decodeCpuset_refuses {w : Word} :
    (∃ e, decodeCpuset w = .error e) ↔
      4 ≤ (subField w).toNat ∨ ((subField w).toNat = 3 ∧ 3 ≤ (dataField w).toNat) ∨
      ((subField w).toNat ≤ 1 ∧ dataField w ≠ 0) ∨
      ((subField w).toNat = 2 ∧ (2 ≤ (dataField w).toNat ∨ addrField w ≠ 0)) ∨
      ((subField w).toNat = 3 ∧ addrField w ≠ 0) := by
  unfold decodeCpuset
  split
  case h_1 hsub | h_2 hsub => simp [hsub]
  case h_3 hsub => simp [hsub, highBits_eq_zero, imp_iff_not_or, Nat.succ_le_iff]
  case h_4 hsub =>
    dsimp only
    split
    case h_4 => exact iff_of_true ⟨_, rfl⟩ (by grind)
    all_goals
      next hmode => simp [hsub, hmode]
  case h_5 => exact iff_of_true ⟨_, rfl⟩ (by grind)

/-- The address is in the register page when its high byte is 0xFF (R145). -/
theorem inRegPage_iff {a : Addr} : inRegPage a = true ↔ a.toNat / 256 = 0xFF := by
  rw [inRegPage, beq_iff_eq, ← BitVec.toNat_inj, BitVec.extractLsb'_toNat, Nat.shiftRight_eq_div_pow]
  have ha : a.toNat < 2 ^ 16 := a.isLt
  simp only [BitVec.toNat_ofNat]
  omega

/-- Settles O4: row by row, the decoder's checks are the conditions of R147 on the fields; the rows it does not list have a
reserved op. -/
theorem decoderRefusesExactlyTheIllegalWords : Obligations.DecoderRefusesExactlyTheIllegalWords := by
  intro w
  unfold illegalWord nonzeroReserved decode
  rw [← toNat_opField, ← toNat_subField, ← toNat_dataField, ← toNat_addrField, ← toNat_countField]
  simp only [toNat_ne_zero_iff]
  split
  case h_3 hop | h_4 hop =>
    split
    case isTrue hpage => simp [hop, inRegPage_iff.mp hpage, imp_iff_not_or]
    case isFalse hpage => simp [hop, mt inRegPage_iff.mpr hpage]
  case h_11 hop => simp [hop, decodeReconcile_refuses]
  case h_12 hop => simp [hop, decodeNextevt_refuses]
  case h_13 hop => simp [hop, decodeSubreset_refuses]
  case h_15 hop => simp [hop, highBits_eq_zero, imp_iff_not_or]
  case h_16 hop => simp [hop, decodeMapperset_refuses]
  case h_17 hop => simp [hop, decodeCpuset_refuses, or_assoc]
  case h_18 => exact iff_of_true ⟨_, rfl⟩ (by grind)
  all_goals
    next hop => simp [hop, imp_iff_not_or]

/-! ## The encoding examples and the step -/

/-- Settles O1: each word is computed. -/
theorem encodingExamplesDecode : Obligations.EncodingExamplesDecode :=
  ⟨rfl, rfl, rfl, rfl, rfl, rfl, rfl, rfl, rfl, rfl, rfl, rfl⟩

end Sys2Proof

namespace Sys2Proof.Machine

/-- Settles O6: the head of the queue is a command word that the decoder accepts. -/
theorem stepRunsTheDecodedCommand : Obligations.StepRunsTheDecodedCommand := by
  intro s w rest i hq hi
  simp only [step, hq, hi]

end Sys2Proof.Machine
end

section
/-! SUPPORT. What an access sees of the subsystems (R174, R284, R286): lockstep leaves the timer as advancing it alone
would. -/

namespace Sys2Proof.Machine

open Sys2Proof.Safety

/-! ## The timer under lockstep -/

/-- One clock of the timer's own fields (R313). -/
def clockTimer (t : Timer) : Timer := stepDivider (stepIrqCd (stepReload t))

theorem tickTimer_timer (s : State) : (tickTimer s).timer = clockTimer s.timer := by
  unfold tickTimer
  split <;> rfl

theorem advanceTimer_timer (d : Nat) (s : State) : (advance .timer d s).timer = clockTimer^[d] s.timer := by
  induction d generalizing s with
  | zero => rfl
  | succ d ih => rw [advance, ih, tickSub, tickTimer_timer, Function.iterate_succ_apply]

/-- The timer alone reaches its fields (R289). -/
theorem tickSub_timer {sub : Subsystem} (h : sub ≠ .timer) (s : State) : (tickSub sub s).timer = s.timer := by
  cases sub with
  | timer => contradiction
  | serial => exact (congrArg State.timer (tickSerial_frame s) :)
  | ppu => exact (congrArg State.timer (tickPpu_frame s) :)
  | sound => exact (congrArg State.timer (tickSound_frame s) :)
  | dma => exact (congrArg State.timer (tickOdma_frame s) :)
  | camera => exact (congrArg State.timer (tickCamera_frame s) :)

/-- A subsystem's part of a lockstep clock clocks the timer where it is the timer's and the timer is due. -/
theorem lockOne_timer (c : Nat) (s : State) (sub : Subsystem) :
    (lockOne c s sub).timer = if .timer = sub ∧ s.last.get .timer = c then clockTimer s.timer else s.timer := by
  unfold lockOne
  by_cases hsub : .timer = sub
  · subst hsub
    simp only [true_and]
    split
    · exact tickTimer_timer s
    · rfl
  · simp only [hsub, false_and, if_false]
    split
    · exact tickSub_timer (Ne.symm hsub) s
    · rfl

/-- From `s` to `t` the timer has been clocked as often as its counter has risen. -/
def TimerClocked (s t : State) : Prop :=
  ∃ d, t.last.get .timer = s.last.get .timer + d ∧ t.timer = clockTimer^[d] s.timer

theorem lockOne_timerClocked {s u : State} (h : TimerClocked s u) (c : Nat) (sub : Subsystem) :
    TimerClocked s (lockOne c u sub) := by
  obtain ⟨d, hlast, htimer⟩ := h
  unfold TimerClocked
  rw [lockOne_get, lockOne_timer]
  split
  · rename_i hdue
    exact ⟨d + 1, by omega, by rw [Function.iterate_succ_apply', htimer]⟩
  · exact ⟨d, hlast, htimer⟩

/-- What every subsystem's part of a lockstep clock keeps, a reconciliation keeps. -/
theorem reconcileAll_of_lockOne {P : State → Prop} (hone : ∀ c u sub, P u → P (lockOne c u sub)) {s : State}
    (h : P s) : P (reconcileAll s) := by
  have hclock (c : Nat) (u : State) (hu : P u) : P (lockClock c u) :=
    List.foldlRecOn _ _ hu fun v hv sub _ => hone c v sub hv
  have hloop (k r : Nat) : P (lockstep k r s) := by
    induction k generalizing s with
    | zero => exact h
    | succ k ih =>
      unfold lockstep
      split
      · exact ih (hclock _ _ h)
      · exact h
  rw [reconcileAll_eq]
  exact hloop _ _

theorem reconcileAll_ref (s : State) : (reconcileAll s).ref = s.ref := by
  simp only [reconcileAll_keeps]

/-- Lockstep leaves the timer as advancing it alone by its lag would (R284, R286). -/
theorem reconcileAll_timer {s : State} (h : CounterBounds s) :
    (reconcileAll s).timer = (advance .timer (s.ref - s.last.timer) s).timer := by
  obtain ⟨d, hlast, htimer⟩ : TimerClocked s (reconcileAll s) :=
    reconcileAll_of_lockOne (P := TimerClocked s) (fun c _ sub hu => lockOne_timerClocked hu c sub) ⟨0, rfl, rfl⟩
  have href : (reconcileAll s).last.get .timer = s.ref := (reconcileAll_settled h .timer).trans (reconcileAll_ref s)
  have hd : d = s.ref - s.last.timer := Nat.eq_sub_of_add_eq' (hlast.symm.trans href)
  rw [htimer, hd, advanceTimer_timer]

/-- Settles O22: lockstep stops with every counter at the clock, and has clocked the timer once per step of its own. -/
theorem accessSeesEverySubsystemCurrent : Obligations.AccessSeesEverySubsystemCurrent :=
  ⟨fun _ => reconcileAll_of_settled, fun s h => ⟨reconcileAll_settled h, reconcileAll_ref s, reconcileAll_timer h⟩⟩

end Sys2Proof.Machine
end

section
/-! SUPPORT. Accesses of the block's own registers (R56, R190-R198, R320-R326, R352-R364, R473, R474), and the break that a
write to the I/O page or IE leaves (R175). -/

namespace Sys2Proof.Machine

open Sys2Proof.Safety

/-! ## The I/O page and IE -/

/-- The addresses that break the burst are those of I/O registers (R91, R175). -/
theorem breaksBurst_iff_region (a : Addr) : breaksBurst a = true ↔ regionOf a = .io ∨ regionOf a = .ie := by
  rw [breaksBurst_iff]
  by_cases hlow : a.toNat < 0xE000
  · have hreg : regionOf a = .rom0 ∨ regionOf a = .romX ∨ regionOf a = .vram ∨ regionOf a = .eram ∨
        regionOf a = .wram := by
      obtain ⟨hrom0, hromX, hvram, heram, hwram, -⟩ := regionsCoverTheAddressSpace a
      grind
    refine iff_of_false (by omega) ?_
    obtain h | h | h | h | h := hreg <;> simp [h]
  · rw [regionOf_high (by omega)]
    have := a.isLt
    split_ifs <;> simp <;> omega

/-- A read of a register that changes nothing answers its byte (R190). -/
theorem exec_readsRegister {s : State} {i : Instr} {a : Addr} {b : Byte} (hs : CpuMay s) (hi : ReadsBus i a)
    (ha : breaksBurst a = true) (hv : ioRead a (current s) = (b, current s)) :
    exec i s = .next { current s with response := some (.byte b) } := by
  have hfree : ¬ conflicts (current s) a := fun ⟨_, _, hlt⟩ => by
    have := (breaksBurst_iff a).1 ha
    omega
  refine exec_readsValue hs hi hfree ?_
  obtain hreg | hreg := (breaksBurst_iff_region a).1 ha <;> simp only [regionValue, hreg, hv]

/-- A write of a register is `io_write`, and a break (R175, R191). -/
theorem exec_writesRegister {s : State} {i : Instr} {a : Addr} {v : Byte} (hs : CpuMay s) (hi : WritesBus i a v)
    (ha : breaksBurst a = true) : exec i s = .next { ioWrite a v (current s) with breakFlag := true } := by
  have hwrite : regionWrite a v (current s) = ioWrite a v (current s) := by
    obtain hreg | hreg := (breaksBurst_iff_region a).1 ha <;> simp only [regionWrite, hreg]
  rw [exec_writesBus hs hi, hwrite, markBreak, if_pos ha]

/-- A register of the CGB family alone (R56). -/
theorem ioRegOf_cgb {s : State} {a : Addr} {r : IoReg} (hf : s.family = .cgb) (hc : ioRegCommon a.toNat = none)
    (hr : ioRegCgb a.toNat = some r) : ioRegOf s a = r := by
  simp only [ioRegOf, hc, hf, hr]

/-! ## What the registers read -/

theorem tickTimer_registers (s : State) :
    (tickTimer s).timer.tma = s.timer.tma ∧ (tickTimer s).timer.tac = s.timer.tac := by
  unfold tickTimer stepDivider incTima stepIrqCd stepReload
  dsimp only
  split_ifs <;> exact ⟨rfl, rfl⟩

/-- TMA, TAC and DMA are written by the CPU alone. -/
theorem tickSub_registers (sub : Subsystem) (s : State) : (tickSub sub s).timer.tma = s.timer.tma ∧
    (tickSub sub s).timer.tac = s.timer.tac ∧ (tickSub sub s).odma.reg = s.odma.reg := by
  cases sub with
  | timer =>
    obtain ⟨htma, htac⟩ := tickTimer_registers s
    exact ⟨htma, htac, (congrArg (fun t : State => t.odma.reg) (tickTimer_frame s) :)⟩
  | dma =>
    have htimer : (tickOdma s).timer = s.timer := (congrArg State.timer (tickOdma_frame s) :)
    exact ⟨congrArg Timer.tma htimer, congrArg Timer.tac htimer, tickOdma_reg s⟩
  | serial =>
    rw [tickSub, tickSerial_frame s]
    exact ⟨rfl, rfl, rfl⟩
  | ppu =>
    rw [tickSub, tickPpu_frame s]
    exact ⟨rfl, rfl, rfl⟩
  | sound =>
    rw [tickSub, tickSound_frame s]
    exact ⟨rfl, rfl, rfl⟩
  | camera =>
    rw [tickSub, tickCamera_frame s]
    exact ⟨rfl, rfl, rfl⟩

theorem current_registers (s : State) : (current s).timer.tma = s.timer.tma ∧
    (current s).timer.tac = s.timer.tac ∧ (current s).odma.reg = s.odma.reg :=
  reconcileAll_invariant
    (P := fun u => u.timer.tma = s.timer.tma ∧ u.timer.tac = s.timer.tac ∧ u.odma.reg = s.odma.reg)
    (fun u sub ⟨htma, htac, hreg⟩ =>
      have ⟨htma', htac', hreg'⟩ := tickSub_registers sub u
      ⟨htma'.trans htma, htac'.trans htac, hreg'.trans hreg⟩)
    (fun _ _ _ h => h) ⟨rfl, rfl, rfl⟩

/-- Five unused bits read 1 (R326, R197). -/
theorem unusedFive : ∀ x : BitVec 3, 0xF8 ||| x.setWidth 8 = (0b11111 : BitVec 5) ++ x := by decide

/-- Seven unused bits read 1 (R196). -/
theorem unusedSeven : ∀ x : BitVec 1, 0xFE ||| x.setWidth 8 = (0b1111111 : BitVec 7) ++ x := by decide

/-- IF reads its five bits under three of 1 (R473). -/
theorem readIf_bits (x : Byte) : 0xE0 ||| (x &&& 0x1F) = (0b111 : BitVec 3) ++ x.extractLsb' 0 5 := by
  refine BitVec.eq_of_getLsbD_eq fun i hi => ?_
  have happend : ((0b111 : BitVec 3) ++ x.extractLsb' 0 5 : Byte).getLsbD i = _ := BitVec.getLsbD_append
  rw [happend]
  interval_cases i <;> simp

theorem readKey1_bits (s : State) :
    readKey1 s = BitVec.ofBool s.doubleSpeed ++ (0b111111 : BitVec 6) ++ BitVec.ofBool s.key1Prepare := by
  unfold readKey1
  cases s.doubleSpeed <;> cases s.key1Prepare <;> rfl

/-- HDMA5 of a running transfer reads the blocks left, less one (R364). -/
theorem readHdma5_running {s : State} (h : s.hdma.mode ≠ .none) :
    readHdma5 s = BitVec.ofNat 8 (s.hdma.remaining / 16 - 1) &&& 0x7F := by
  unfold readHdma5
  dsimp only
  split
  · contradiction
  all_goals rfl

/-- HDMA5 with no transfer running reads 0xFF, or the blocks a cancelled one left under a bit 7 of 1 (R364). -/
theorem readHdma5_idle {s : State} (h : s.hdma.mode = .none) : readHdma5 s =
    if s.hdma.remaining / 16 = 0 then 0xFF else 0x80 ||| (BitVec.ofNat 8 (s.hdma.remaining / 16 - 1) &&& 0x7F) := by
  simp only [readHdma5, h]

/-- Settles O26: each address names its register, and the handler's byte has the bits of the rule. -/
theorem readsOfTheBlocksRegisters : Obligations.ReadsOfTheBlocksRegisters := by
  intro s i a hs hi
  have hread {b : Byte} (ha : breaksBurst a = true) (hv : ioRead a (current s) = (b, current s)) :=
    exec_readsRegister hs hi ha hv
  obtain ⟨htma, htac, hreg⟩ := current_registers s
  constructor
  · have hname {r : IoReg} (hr : ioRegCommon a.toNat = some r) : ioRegOf (current s) a = r := ioRegOf_common hr
    rintro b (⟨rfl, rfl⟩ | ⟨rfl, rfl⟩ | ⟨rfl, rfl⟩ | ⟨rfl, rfl⟩ | ⟨rfl, rfl⟩ | ⟨rfl, rfl⟩ | ⟨rfl, rfl⟩ | ⟨rfl, rfl⟩)
    · exact hread (by decide) (by simp only [ioRead, hname (r := .div) rfl, readDiv])
    · exact hread (by decide) (by simp only [ioRead, hname (r := .tima) rfl])
    · exact hread (by decide) (by simp only [ioRead, hname (r := .tma) rfl, htma])
    · exact hread (by decide) (by simp only [ioRead, hname (r := .tac) rfl, htac, unusedFive])
    · exact hread (by decide) (by simp only [ioRead, hname (r := .ifReg) rfl, readIf_bits])
    · exact hread (by decide) (by simp only [ioRead, hname (r := .dma) rfl, hreg])
    · exact hread (by decide) (by simp only [ioRead, hname (r := .boot) rfl])
    · exact hread (by decide) (by simp only [ioRead, hname (r := .ie) rfl, reconcileAll_keeps])
  · intro hf b
    have hname {r : IoReg} (hc : ioRegCommon a.toNat = none) (hr : ioRegCgb a.toNat = some r) :
        ioRegOf (current s) a = r := ioRegOf_cgb ((current_family s).trans hf) hc hr
    rintro (⟨rfl, rfl⟩ | ⟨rfl, rfl⟩ | ⟨rfl | rfl | rfl | rfl, rfl⟩ | ⟨rfl, hm, rfl⟩ | ⟨rfl, hm, hz, rfl⟩ |
      ⟨rfl, hm, hz, rfl⟩ | ⟨rfl, rfl⟩)
    · exact hread (by decide) (by simp only [ioRead, hname (r := .key1) rfl rfl, readKey1_bits, reconcileAll_keeps])
    · exact hread (by decide) (by simp only [ioRead, hname (r := .vbk) rfl rfl, unusedSeven, reconcileAll_keeps])
    · exact hread (by decide) (by simp only [ioRead, hname (r := .hdma1) rfl rfl])
    · exact hread (by decide) (by simp only [ioRead, hname (r := .hdma2) rfl rfl])
    · exact hread (by decide) (by simp only [ioRead, hname (r := .hdma3) rfl rfl])
    · exact hread (by decide) (by simp only [ioRead, hname (r := .hdma4) rfl rfl])
    · exact hread (by decide) (by simp only [ioRead, hname (r := .hdma5) rfl rfl, readHdma5_running hm])
    · exact hread (by decide) (by simp only [ioRead, hname (r := .hdma5) rfl rfl, readHdma5_idle hm, if_pos hz])
    · exact hread (by decide) (by simp only [ioRead, hname (r := .hdma5) rfl rfl, readHdma5_idle hm, if_neg hz])
    · exact hread (by decide) (by simp only [ioRead, hname (r := .svbk) rfl rfl, unusedFive, reconcileAll_keeps])

/-! ## The bytes of the HDMA pointers -/

/-- A mask of an address is a mask of each of its bytes. -/
theorem and_bytes (x : Addr) (m n : Byte) :
    x &&& (m ++ n) = (x.extractLsb' 8 8 &&& m) ++ (x.extractLsb' 0 8 &&& n) := by
  have hx : x.extractLsb' 8 8 ++ x.extractLsb' 0 8 = x := BitVec.extractLsb'_append_extractLsb' (w := 8)
  rw [← BitVec.and_append, hx]

theorem or_bytes (h l : Byte) : (h ++ (0 : Byte)) ||| ((0 : Byte) ++ l) = h ++ l := by
  rw [BitVec.or_append]
  simp

/-- The low byte of a pointer, its unused bits 0. -/
theorem pointerLow (x : Addr) : x &&& 0x00F0#16 = (0 : Byte) ++ (x.extractLsb' 0 8 &&& 0xF0) :=
  (and_bytes x 0 0xF0).trans (congrArg (· ++ _) BitVec.and_zero)

/-- Bits 15:13 of a destination are 100 (R360). -/
theorem dstHigh_bits (h : Byte) : 0x80 ||| (h &&& 0x1F) = (0b100 : BitVec 3) ++ h.extractLsb' 0 5 := by
  refine BitVec.eq_of_getLsbD_eq fun i hi => ?_
  have happend : ((0b100 : BitVec 3) ++ h.extractLsb' 0 5 : Byte).getLsbD i = _ := BitVec.getLsbD_append
  rw [happend]
  interval_cases i <;> simp

theorem dst_bytes (h l : Byte) : 0x8000#16 ||| ((h &&& 0x1F) ++ (0 : Byte)) ||| ((0 : Byte) ++ l) =
    (0b100 : BitVec 3) ++ h.extractLsb' 0 5 ++ l := by
  have hhigh : 0x8000#16 ||| ((h &&& 0x1F) ++ (0 : Byte)) = (0x80 ||| (h &&& 0x1F)) ++ (0 : Byte) :=
    BitVec.or_append (x₁ := 0x80#8) (y₁ := 0#8)
  rw [hhigh, or_bytes, dstHigh_bits]

theorem writeHdma1_eq (v : Byte) (s : State) : writeHdma1 v s =
    { s with hdma := { s.hdma with srcReg := v ++ (s.hdma.srcReg.extractLsb' 0 8 &&& 0xF0) } } := by
  rw [writeHdma1, pointerLow, or_bytes]

theorem writeHdma2_eq (v : Byte) (s : State) : writeHdma2 v s =
    { s with hdma := { s.hdma with srcReg := s.hdma.srcReg.extractLsb' 8 8 ++ (v &&& 0xF0) } } := by
  have hhigh : s.hdma.srcReg &&& 0xFF00#16 = s.hdma.srcReg.extractLsb' 8 8 ++ (0 : Byte) :=
    (and_bytes _ 0xFF 0).trans (congrArg₂ (· ++ ·) BitVec.and_allOnes BitVec.and_zero)
  rw [writeHdma2, hhigh, or_bytes]

theorem writeHdma3_eq (v : Byte) (s : State) : writeHdma3 v s =
    { s with hdma := { s.hdma with
      dstReg := (0b100 : BitVec 3) ++ v.extractLsb' 0 5 ++ (s.hdma.dstReg.extractLsb' 0 8 &&& 0xF0) } } := by
  rw [writeHdma3, pointerLow, dst_bytes]

theorem writeHdma4_eq (v : Byte) (s : State) : writeHdma4 v s =
    { s with hdma := { s.hdma with
      dstReg := (0b100 : BitVec 3) ++ s.hdma.dstReg.extractLsb' 8 5 ++ (v &&& 0xF0) } } := by
  have hhigh : s.hdma.dstReg &&& 0x1F00#16 = (s.hdma.dstReg.extractLsb' 8 8 &&& 0x1F) ++ (0 : Byte) :=
    (and_bytes _ 0x1F 0).trans (congrArg (_ ++ ·) BitVec.and_zero)
  rw [writeHdma4, hhigh, dst_bytes, lowBits_of_byte]

/-! ## What writes to the registers do -/

/-- Settles O30: each address names its register, and the handler stores the bits of the rule. -/
theorem writesOfTheBlocksRegisters : Obligations.WritesOfTheBlocksRegisters := by
  intro s i a v hs hi
  have hwrite (ha : breaksBurst a = true) := exec_writesRegister hs hi ha
  have hcommon {r : IoReg} (hr : ioRegCommon a.toNat = some r) : ioRegOf (current s) a = r := ioRegOf_common hr
  have hcgb {r : IoReg} (hf : s.family = .cgb) (hc : ioRegCommon a.toNat = none) (hr : ioRegCgb a.toNat = some r) :
      ioRegOf (current s) a = r := ioRegOf_cgb ((current_family s).trans hf) hc hr
  refine ⟨?tma, ?ifReg, ?ie, ?dma, ?boot, fun hf => ⟨?key1, ?vbk, ?svbk, ?hdma1, ?hdma2, ?hdma3, ?hdma4⟩⟩
  case ie =>
    rintro rfl
    rw [hwrite (by decide), ioWrite, hcommon rfl]
  case tma | ifReg | dma | boot =>
    rintro rfl
    rw [hwrite (by decide), ioWrite, hcommon rfl]
    simp only [writeTma, writeIf, writeIf_bits, writeDmaReg, writeBoot, selectDispatch, current_family]
  case key1 | vbk | svbk =>
    rintro rfl
    rw [hwrite (by decide), ioWrite, hcgb hf rfl rfl]
  case hdma1 | hdma2 | hdma3 | hdma4 =>
    rintro rfl
    rw [hwrite (by decide), ioWrite, hcgb hf rfl rfl]
    simp only [writeHdma1_eq, writeHdma2_eq, writeHdma3_eq, writeHdma4_eq]

/-! ## The break flag -/

theorem eramWrite_breakFlag (s : State) (n : Nat) (v : Byte) : (eramWrite s n v).breakFlag = s.breakFlag := by
  unfold eramWrite
  split <;> rfl

/-- A write to the mapper window ends no burst. -/
theorem windowWrite_breakFlag (s : State) (n : Nat) (v : Byte) : (windowWrite s n v).breakFlag = s.breakFlag := by
  unfold windowWrite
  split
  · unfold cameraWrite
    split <;> rfl
  · generalize s.mapper = m
    cases m with
    | mbc3 m =>
      dsimp only
      unfold mbc3RamWrite
      split
      · rfl
      · exact eramWrite_breakFlag s n v
    | mbc7 m =>
      dsimp only
      split_ifs
      · rfl
      · exact (congrArg State.breakFlag (drawBytes_snd 4 s) :)
      · rfl
    | supplied k m =>
      dsimp only
      split
      · exact (congrArg State.breakFlag (drawBytes_snd 5 s) :)
      · exact eramWrite_breakFlag s n v
    | _ => exact eramWrite_breakFlag s n v

theorem mapperWrite_breakFlag (s : State) (n : Nat) (v : Byte) : (mapperWrite s n v).breakFlag = s.breakFlag := by
  unfold mapperWrite
  split
  · exact (congrArg State.breakFlag (bankWrite_frame n v s) :)
  · exact windowWrite_breakFlag s n v

/-- Outside the I/O page and IE no region's write reaches the flag (R103-R109). -/
theorem regionWrite_breakFlag {a : Addr} (h : ¬ breaksBurst a = true) (v : Byte) (s : State) :
    (regionWrite a v s).breakFlag = s.breakFlag := by
  rw [breaksBurst_iff_region] at h
  unfold regionWrite
  dsimp only
  cases hreg : regionOf a with
  | rom0 | romX | eram => exact mapperWrite_breakFlag s a.toNat v
  | wram | echo | hram | unusable => rfl
  | vram | oam =>
    dsimp only
    split <;> rfl
  | io => exact absurd (.inl hreg) h
  | ie => exact absurd (.inr hreg) h

theorem busWrite_breakFlag {a : Addr} (h : ¬ breaksBurst a = true) (v : Byte) (s : State) :
    (busWrite a v s).breakFlag = s.breakFlag := by
  rw [busWrite, markBreak, if_neg h, regionWrite_breakFlag h]
  simp only [reconcileAll_keeps]

/-- Settles O28: `markBreak` sets the flag at these addresses, and at any other no region's write reaches it. -/
theorem writeToTheIoPageBreaksTheBurst : Obligations.WriteToTheIoPageBreaksTheBurst := by
  have hbreaks (a : Addr) : breaksBurst a = true ↔ (0xFF00 ≤ a.toNat ∧ a.toNat ≤ 0xFF7F) ∨ a = 0xFFFF := by
    rw [breaksBurst_iff, ← BitVec.toNat_inj]
    rfl
  refine ⟨fun s i a v hs hi => ⟨busWrite a v (begun s), exec_writesBus hs hi, fun h => ?_, fun h => ?_⟩,
    fun s a v h => ?_⟩
  · exact busWrite_breaks ((hbreaks a).2 h) v _
  · exact busWrite_breakFlag (mt (hbreaks a).1 h) v _
  · exact busWrite_breaks ((hbreaks a).2 h) v s

end Sys2Proof.Machine
end

section
/-! SUPPORT. The clocks only run forward (R254, R288): between two segments no operation but POWERON lowers the clock or a
subsystem's counter, and inside a burst none moves its start or its horizon (R247). -/

namespace Sys2Proof.Machine

open Sys2Proof.Safety

/-! ## The relation -/

/-- Neither the clock nor a subsystem's counter is lower in `t` than in `s` (R254). -/
structure Forward (s t : State) : Prop where
  ref : s.ref ≤ t.ref
  last : ∀ sub : Subsystem, s.last.get sub ≤ t.last.get sub

/-- What every operation inside a burst does to the clocks: they run forward, and the burst's start and horizon stay. -/
structure Onward (s t : State) : Prop extends Forward s t where
  horizon : t.horizon = s.horizon
  start : t.burstStart = s.burstStart

theorem Forward.trans {s t u : State} (h1 : Forward s t) (h2 : Forward t u) : Forward s u where
  ref := h1.ref.trans h2.ref
  last sub := (h1.last sub).trans (h2.last sub)

theorem Onward.refl (s : State) : Onward s s := ⟨⟨le_rfl, fun _ => le_rfl⟩, rfl, rfl⟩

theorem Onward.trans {s t u : State} (h1 : Onward s t) (h2 : Onward t u) : Onward s u where
  toForward := h1.toForward.trans h2.toForward
  horizon := h2.horizon.trans h1.horizon
  start := h2.start.trans h1.start

/-- The fields `Onward` speaks of. -/
def clocks (s : State) : Nat × Lasts × Nat × Nat := (s.ref, s.last, s.horizon, s.burstStart)

/-- An operation that leaves these fields alone is onward. -/
theorem onward_of_clocks {s t : State} (h : clocks t = clocks s) : Onward s t := by
  simp only [clocks, Prod.mk.injEq] at h
  obtain ⟨href, hlast, hhorizon, hstart⟩ := h
  exact ⟨⟨href.ge, fun sub => by rw [hlast]⟩, hhorizon, hstart⟩

/-- So is one whose frame names none of them. -/
theorem onward_of_frame {s t u : State} (h : t = u) (hu : clocks u = clocks s) : Onward s t :=
  onward_of_clocks (h ▸ hu)

/-- A counter may be set to any value it has not passed. -/
theorem setLast_onward {sub : Subsystem} {r : Nat} {s : State} (hr : s.last.get sub ≤ r) : Onward s (setLast sub r s) where
  ref := le_rfl
  last b := by
    rw [setLast_last, lasts_get_set]
    split
    · rename_i hb
      exact hb ▸ hr
    · exact le_rfl
  horizon := rfl
  start := rfl

/-! ## Faults, the clock, the guards -/

theorem raise_onward (f : Fault) (s : State) : Onward s (raise f s) := onward_of_frame (raise_frame f s) rfl

theorem respond_onward (r : Response) (s : State) : Onward s (respond r s) := onward_of_frame (respond_frame r s) rfl

theorem addClock_onward (n : Nat) (s : State) : Onward s (addClock n s) := by
  unfold addClock
  split
  · exact raise_onward _ s
  · exact ⟨⟨Nat.le_add_right _ _, fun _ => le_rfl⟩, rfl, rfl⟩

theorem unlessFaulted_onward {f : State → State} (s : State) (h : ∀ u, Onward u (f u)) :
    Onward s (unlessFaulted s f) := by
  unfold unlessFaulted
  split
  · exact h s
  · exact Onward.refl s

theorem unlessGdma_onward {f : State → State} (s : State) (h : ∀ u, Onward u (f u)) : Onward s (unlessGdma f s) := by
  unfold unlessGdma
  split
  · exact raise_onward _ s
  · exact h s
  · exact h s

theorem command_onward {f : State → State} (s : State) (h : ∀ u, Onward u (f u)) : Onward s (command f s) :=
  Onward.trans (onward_of_clocks (by rfl)) (unlessFaulted_onward (begun s) h)

/-! ## Reconciliation -/

theorem advance_onward (sub : Subsystem) (d : Nat) (s : State) : Onward s (advance sub d s) :=
  onward_of_frame (advance_only sub d s) rfl

theorem lockOne_onward (c : Nat) (s : State) (sub : Subsystem) : Onward s (lockOne c s sub) := by
  unfold lockOne
  split
  · rename_i hc
    refine Onward.trans (onward_of_frame (tickSub_only sub s) rfl) (setLast_onward ?_)
    rw [tickSub_last, hc]
    exact Nat.le_succ c
  · exact Onward.refl s

theorem reconcileAll_onward (s : State) : Onward s (reconcileAll s) :=
  reconcileAll_of_lockOne (P := Onward s) (fun c u sub h => h.trans (lockOne_onward c u sub)) (Onward.refl s)

/-- RECONCILE to a reference behind the counter, or ahead of the clock, moves no counter (R281). -/
theorem reconcile_onward (sub : Subsystem) (r : Nat) (s : State) : Onward s (reconcile sub r s) := by
  unfold reconcile
  split
  · cases sub with
    | sound => exact Onward.refl s
    | timer | serial | ppu | dma | camera => exact raise_onward _ s
  · rename_i hr
    split
    · exact raise_onward _ s
    · have hlast : (advance sub (r - s.last.get sub) s).last = s.last := (congrArg State.last (advance_only sub _ s) :)
      exact (advance_onward sub _ s).trans (setLast_onward (by rw [hlast]; exact Nat.le_of_not_lt hr))

/-- SUBRESET takes the counter to the clock, which it was not ahead of (R283). -/
theorem subReset_onward {s : State} (h : CounterBounds s) (sub : Subsystem) : Onward s (subReset sub s) := by
  have hlast : (resetSub sub s).last = s.last := by
    cases sub <;> simp only [resetSub, resetTimer, resetDma, resetPpu, resetCamera, drawAddr, drawByte]
  refine Onward.trans ?_ (setLast_onward (by rw [hlast]; exact h.2 sub))
  have hframe := resetSub_only sub s
  unfold ResetOnly at hframe
  rw [hlast] at hframe
  exact onward_of_frame hframe rfl

/-! ## Bus accesses -/

theorem drawByte_onward (s : State) : Onward s (drawByte s).2 := onward_of_clocks rfl

theorem collabRead_onward (c : Collab) (a : Addr) (s : State) : Onward s (collabRead c a s).2 := by
  unfold collabRead
  split
  · dsimp only
    split
    · exact onward_of_clocks (by cases c <;> rfl)
    · exact Onward.refl s
  · exact drawByte_onward s

theorem ioRead_onward (a : Addr) (s : State) : Onward s (ioRead a s).2 := by
  unfold ioRead
  generalize ioRegOf s a = r
  cases r with
  | collab c => exact collabRead_onward c a s
  | _ => exact onward_of_clocks rfl

theorem regionRead_onward (a : Addr) (s : State) : Onward s (regionRead a s).2 := by
  unfold regionRead
  split
  · exact drawByte_onward s
  · unfold regionValue
    dsimp only
    cases regionOf a with
    | rom0 => exact onward_of_frame (rom0Read_frame _ s) rfl
    | romX | eram => exact onward_of_frame (mapperRead_frame _ s) rfl
    | io | ie => exact ioRead_onward a s
    | vram | wram | echo | oam | unusable | hram => exact Onward.refl s

theorem copyBlock_onward (s : State) : Onward s (copyBlock s) := by
  have h := copyBlock_frame s
  generalize copyBlock s = t at h ⊢
  exact onward_of_frame h rfl

theorem finishIfDone_onward (s : State) : Onward s (finishIfDone s) := onward_of_frame (finishIfDone_frame s) rfl

theorem startHdma_onward (v : Byte) (s : State) : Onward s (startHdma v s) := by
  unfold startHdma
  dsimp only
  split
  · split
    · exact onward_of_clocks rfl
    · exact Onward.trans (onward_of_clocks (by rfl)) ((copyBlock_onward _).trans (finishIfDone_onward _))
  · exact onward_of_clocks rfl

theorem writeHdma5_onward (v : Byte) (s : State) : Onward s (writeHdma5 v s) := by
  unfold writeHdma5
  split
  · exact startHdma_onward v s
  · split
    · exact startHdma_onward v s
    · exact onward_of_clocks rfl
  · exact Onward.refl s

theorem collabWrite_onward (c : Collab) (a : Addr) (v : Byte) (s : State) : Onward s (collabWrite c a v s) := by
  unfold collabWrite
  split
  · exact onward_of_frame (handlerWrote_frame c a v _ s) rfl
  · exact Onward.refl s

theorem ioWrite_onward (a : Addr) (v : Byte) (s : State) : Onward s (ioWrite a v s) := by
  unfold ioWrite
  generalize ioRegOf s a = r
  cases r with
  | tima =>
    dsimp only
    unfold writeTima
    split
    · exact onward_of_clocks rfl
    · split <;> exact onward_of_clocks rfl
  | hdma5 => exact writeHdma5_onward v s
  | collab c => exact collabWrite_onward c a v s
  | _ => exact onward_of_clocks rfl

theorem eramWrite_onward (a : Nat) (v : Byte) (s : State) : Onward s (eramWrite s a v) := by
  unfold eramWrite
  split
  · exact onward_of_clocks rfl
  · exact Onward.refl s

/-- Drawn bytes move the draw counter, and what is drawn goes into a mapper. -/
theorem mapperDraw_onward (n : Nat) (m : Mapper) (s : State) : Onward s { (drawBytes n s).2 with mapper := m } := by
  rw [drawBytes_snd]
  exact onward_of_clocks rfl

theorem windowWrite_onward (a : Nat) (v : Byte) (s : State) : Onward s (windowWrite s a v) := by
  unfold windowWrite
  split
  · unfold cameraWrite
    split <;> exact onward_of_clocks rfl
  · generalize s.mapper = m
    cases m with
    | mbc3 m =>
      dsimp only
      unfold mbc3RamWrite
      split
      · exact onward_of_clocks rfl
      · exact eramWrite_onward a v s
    | mbc7 m =>
      dsimp only
      split_ifs
      · exact onward_of_clocks rfl
      · exact mapperDraw_onward 4 _ s
      · exact Onward.refl s
    | supplied k m =>
      dsimp only
      split
      · exact mapperDraw_onward 5 _ s
      · exact eramWrite_onward a v s
    | _ => exact eramWrite_onward a v s

theorem regionWrite_onward (a : Addr) (v : Byte) (s : State) : Onward s (regionWrite a v s) := by
  unfold regionWrite
  dsimp only
  cases regionOf a with
  | rom0 | romX | eram =>
    dsimp only
    unfold mapperWrite
    split
    · exact onward_of_frame (bankWrite_frame _ v s) rfl
    · exact windowWrite_onward _ v s
  | io | ie => exact ioWrite_onward a v s
  | wram | echo | hram | unusable => exact onward_of_clocks rfl
  | vram | oam =>
    dsimp only
    split <;> exact onward_of_clocks rfl

theorem busWrite_onward (a : Addr) (v : Byte) (s : State) : Onward s (busWrite a v s) := by
  have hmark (u : State) : Onward u (markBreak a u) := by
    unfold markBreak
    split <;> exact onward_of_clocks rfl
  exact (reconcileAll_onward s).trans ((regionWrite_onward a v _).trans (hmark _))

theorem readCommand_onward (a : Addr) (s : State) : Onward s (readCommand a s) :=
  unlessGdma_onward s fun u => (reconcileAll_onward u).trans ((regionRead_onward a _).trans (respond_onward _ _))

theorem writeCommand_onward (a : Addr) (v : Byte) (s : State) : Onward s (writeCommand a v s) :=
  unlessGdma_onward s (busWrite_onward a v)

/-! ## DMAEXEC -/

theorem gdmaBlock_onward (s : State) : Onward s (gdmaBlock s) :=
  (reconcileAll_onward s).trans ((copyBlock_onward _).trans (addClock_onward _ _))

theorem gdmaLoop_onward (start c k : Nat) (s : State) : Onward s (gdmaLoop start c k s) := by
  induction k generalizing s with
  | zero => exact Onward.refl s
  | succ k ih =>
    refine (gdmaBlock_onward s).trans (unlessFaulted_onward _ fun u => ?_)
    split_ifs
    · exact onward_of_clocks rfl
    · exact Onward.refl u
    · exact ih u

theorem payPrep_onward (c : Nat) (s : State) : Onward s (payPrep c s) :=
  Onward.trans (onward_of_clocks (by rfl)) (addClock_onward (prepClocks c s) _)

theorem gdmaRun_onward (c : Nat) (s : State) : Onward s (gdmaRun c s) := by
  unfold gdmaRun
  split
  · refine (payPrep_onward c s).trans (unlessFaulted_onward _ fun u => ?_)
    split
    · exact Onward.refl u
    · exact gdmaLoop_onward _ _ _ u
  · exact gdmaLoop_onward _ _ _ s

theorem dmaExec_onward (c : Nat) (s : State) : Onward s (dmaExec c s) := by
  unfold dmaExec
  split
  · exact (gdmaRun_onward c s).trans (respond_onward _ _)
  · exact respond_onward _ s
  · exact respond_onward _ s

/-! ## The interrupt check -/

theorem takeVector_onward (s : State) : Onward s (takeVector s) := onward_of_frame (takeVector_frame s) rfl

theorem acknowledge_onward (s : State) : Onward s (acknowledge s) := by
  unfold acknowledge
  refine Onward.trans (Onward.trans (onward_of_clocks (by rfl)) (addClock_onward 8 { s with ime := false }))
    (unlessFaulted_onward _ fun u => ?_)
  refine ((busWrite_onward _ _ u).trans (addClock_onward 4 _)).trans (unlessFaulted_onward _ fun v => ?_)
  refine Onward.trans ?_ ((reconcileAll_onward _).trans ((takeVector_onward _).trans (addClock_onward 8 _)))
  exact (busWrite_onward _ _ v).trans (onward_of_clocks (by rfl))

theorem wake_onward (n : Nat) (s : State) : Onward s (addClock n { s with haltMode := .run }) :=
  Onward.trans (onward_of_clocks (by rfl)) (addClock_onward n { s with haltMode := .run })

theorem wakeAfterAck_onward (s : State) : Onward s (wakeAfterAck s) := by
  unfold wakeAfterAck
  split
  · exact wake_onward _ s
  · exact Onward.refl s
  · exact Onward.refl s

theorem wakeWithoutService_onward (s : State) : Onward s (wakeWithoutService s) := by
  unfold wakeWithoutService
  split
  · exact wake_onward 4 s
  · exact Onward.refl s
  · exact Onward.refl s

theorem irqDecide_onward (s : State) : Onward s (irqDecide s) := by
  have hrun : Onward s (if pendingIrqs s = 0 then s
      else if s.ime then unlessFaulted (acknowledge s) wakeAfterAck else wakeWithoutService s) := by
    split_ifs
    · exact Onward.refl s
    · exact (acknowledge_onward s).trans (unlessFaulted_onward _ wakeAfterAck_onward)
    · exact wakeWithoutService_onward s
  unfold irqDecide
  split
  · unfold stopCheck
    split <;> exact onward_of_clocks rfl
  · exact hrun
  · exact hrun

theorem irqCheck_onward (s : State) : Onward s (irqCheck s) :=
  unlessGdma_onward s fun u =>
    (reconcileAll_onward u).trans ((irqDecide_onward _).trans (respond_onward _ _))

/-! ## The CPU step and the burst step -/

theorem setHaltMode_onward (m : HaltMode) (s : State) : Onward s (setHaltMode m s) := by
  cases m with
  | run | halt => exact onward_of_clocks rfl
  | stop =>
    unfold setHaltMode
    dsimp only
    split
    · exact Onward.trans (onward_of_clocks (by rfl)) (addClock_onward s.params.speedSwitchClocks _)
    · exact onward_of_clocks rfl

theorem cpuRule_onward {i : Instr} {f : State → State} (h : cpuRule i = some f) (s : State) : Onward s (f s) := by
  cases i <;> simp only [cpuRule, Option.some.injEq, reduceCtorEq] at h <;> subst h
  case rd8 a | rdreg8 a => exact readCommand_onward a s
  case wr8 a v | wrreg8 a v => exact writeCommand_onward a v s
  case clkget => exact respond_onward _ s
  case clkadd n => exact addClock_onward n.toNat s
  case dmaexec n => exact dmaExec_onward n.toNat s
  case cpusetPc | cpusetSp | cpusetIme => exact onward_of_clocks rfl
  case cpusetHaltRun | cpusetHaltHalt | cpusetHaltStop => exact setHaltMode_onward _ s

theorem collectReply_onward (s : State) : Onward s (collectReply s) := by
  unfold collectReply
  split <;> exact onward_of_clocks rfl

theorem cpuIssueWord_onward (w : Word) (s : State) : Onward s (cpuIssueWord w s) := by
  unfold cpuIssueWord
  split
  · rename_i i _
    unfold cpuIssue
    split
    · rename_i f hf
      exact (command_onward s (cpuRule_onward hf)).trans (collectReply_onward _)
    · exact raise_onward _ s
  · exact onward_of_clocks rfl

theorem cpuRun_onward (next : Nat → List Response → Option Word) (k issued clocks : Nat) (s : State) :
    Onward s (cpuRun next k issued clocks s).2 := by
  induction k generalizing issued clocks s with
  | zero => exact Onward.refl s
  | succ k ih =>
    unfold cpuRun
    split
    · exact (cpuIssueWord_onward _ s).trans (ih _ _ _)
    · exact Onward.refl s

theorem cpuEnd_onward (r : Nat × State) : Onward r.2 (cpuEnd r) := by
  unfold cpuEnd
  split
  · exact (raise_onward _ r.2).trans (onward_of_clocks (by rfl))
  · exact onward_of_clocks rfl

theorem cpuStep_onward (s : State) : Onward s (cpuStep s) := by
  unfold cpuStep
  split
  · exact Onward.trans (onward_of_clocks (by rfl)) ((cpuRun_onward _ _ _ _ _).trans (cpuEnd_onward _))
  · unfold cpuStepFree
    extract_lets t
    have h : Onward s t :=
      Onward.trans (onward_of_clocks (by rfl)) ((cpuRun_onward _ _ _ _ _).trans (cpuEnd_onward _))
    exact h.trans (onward_of_clocks (by rfl))

theorem afterCheck_onward (s : State) : Onward s (afterCheck s) := by
  unfold afterCheck
  split
  · exact Onward.refl s
  · split
    · exact cpuStep_onward s
    · exact addClock_onward _ s
    · exact addClock_onward _ s

theorem payStall_onward (s : State) : Onward s (payStall s) :=
  (addClock_onward _ s).trans (unlessFaulted_onward _ fun _ => onward_of_clocks rfl)

/-- A burst step moves neither the burst's start nor its horizon, and no clock back (R247, R248). -/
theorem burstStep_onward (s : State) : Onward s (burstStep s) := by
  have h : Onward s (if s.hdma.stall > 0 then payStall s else unlessFaulted (irqCheck s) afterCheck) := by
    split
    · exact payStall_onward s
    · exact (irqCheck_onward s).trans (unlessFaulted_onward _ afterCheck_onward)
  unfold burstStep
  split
  · exact dmaExec_onward _ s
  · exact h
  · exact h

/-! ## Commands -/

/-- The horizon is no clock. -/
theorem setHorizon_forward (s : State) : Forward s (setHorizon s) := by
  unfold setHorizon
  dsimp only
  split
  · exact ((reconcileAll_onward s).trans (raise_onward _ _)).toForward
  · exact (reconcileAll_onward s).toForward.trans ⟨le_rfl, fun _ => le_rfl⟩

theorem horizonCommand_forward (s : State) : Forward s (horizonCommand s) :=
  (setHorizon_forward s).trans (respond_onward _ _).toForward

theorem nextEvt_onward (sub : Subsystem) (s : State) : Onward s (nextEvt sub s) := by
  unfold nextEvt
  split
  · exact raise_onward _ s
  · exact respond_onward _ s

theorem breakCheck_onward (s : State) : Onward s (breakCheck s) :=
  Onward.trans (onward_of_clocks (by rfl)) (respond_onward _ { s with breakFlag := false })

theorem mapperSet_onward (kind : MapperKind) (s : State) : Onward s (mapperSet kind s) := by
  cases kind with
  | mbc6 =>
    have hlog := logOnce_frame .unsupportedMbc6 { s with mapper := mapperInit .mbc6 s }
    exact Onward.trans (onward_of_clocks (by rfl)) (onward_of_frame hlog rfl)
  | _ => exact onward_of_clocks rfl

/-- Every command but RUNFOR and POWERON runs a rule that runs the clocks forward, where no subsystem is ahead. -/
theorem exec_forwardRule {i : Instr} (hr : ¬ isRunfor i) (hp : ¬ isPoweron i) (s : State) :
    ∃ f : State → State, exec i s = .next (command f s) ∧ ∀ u, CounterBounds u → Forward u (f u) := by
  cases i with
  | rd8 a | rdreg8 a => exact ⟨_, rfl, fun u _ => (readCommand_onward a u).toForward⟩
  | wr8 a v | wrreg8 a v => exact ⟨_, rfl, fun u _ => (writeCommand_onward a v u).toForward⟩
  | clkget => exact ⟨_, rfl, fun u _ => (respond_onward _ u).toForward⟩
  | clkadd n => exact ⟨_, rfl, fun u _ => (addClock_onward n.toNat u).toForward⟩
  | brkchk => exact ⟨_, rfl, fun u _ => (breakCheck_onward u).toForward⟩
  | irqchk => exact ⟨_, rfl, fun u _ => (irqCheck_onward u).toForward⟩
  | dmaexec n => exact ⟨_, rfl, fun u _ => (dmaExec_onward n.toNat u).toForward⟩
  | horizon => exact ⟨_, rfl, fun u _ => horizonCommand_forward u⟩
  | reconcileTimer n | reconcileSerial n | reconcilePpu n | reconcileSound n | reconcileDma n | reconcileCamera n =>
    exact ⟨_, rfl, fun u _ => (reconcile_onward _ n.toNat u).toForward⟩
  | nextevtTimer | nextevtSerial | nextevtPpu | nextevtSound | nextevtDma | nextevtCamera =>
    exact ⟨_, rfl, fun u _ => (nextEvt_onward _ u).toForward⟩
  | subresetTimer | subresetSerial | subresetPpu | subresetSound | subresetDma | subresetCamera =>
    exact ⟨_, rfl, fun u hu => (subReset_onward hu _).toForward⟩
  | runfor n => exact absurd ⟨n, rfl⟩ hr
  | poweron m b c => exact absurd ⟨m, b, c, rfl⟩ hp
  | mappersetNone | mappersetMbc1 | mappersetMbc2 | mappersetMbc3 | mappersetMbc5 | mappersetMbc6 | mappersetMbc7
  | mappersetMmm01 | mappersetRumble | mappersetCamera => exact ⟨_, rfl, fun u _ => (mapperSet_onward _ u).toForward⟩
  | cpusetPc | cpusetSp | cpusetIme => exact ⟨_, rfl, fun _ _ => ⟨le_rfl, fun _ => le_rfl⟩⟩
  | cpusetHaltRun | cpusetHaltHalt | cpusetHaltStop => exact ⟨_, rfl, fun u _ => (setHaltMode_onward _ u).toForward⟩

theorem command_forward {f : State → State} {s : State} (hs : CounterBounds s)
    (h : ∀ u, CounterBounds u → Forward u (f u)) : Forward s (command f s) := by
  have hbegun : Forward s (begun s) := ⟨le_rfl, fun _ => le_rfl⟩
  cases hf : s.fault with
  | none => exact command_ready (f := f) hf ▸ hbegun.trans (h (begun s) hs)
  | some k => exact command_faulted (f := f) hf ▸ hbegun

/-! ## The obligations -/

/-- Settles O14: each operation moves the clock and the counters up or not at all, and no counter passes the clock, as O55
says. -/
theorem clocksNeverRunBackwards : Obligations.ClocksNeverRunBackwards := by
  intro i s t hs hexec hr hp
  have hbounds : CounterBounds t := (exec_upholds hexec hp).counters hs
  obtain ⟨f, hf, hforward⟩ := exec_forwardRule hr hp s
  obtain rfl : command f s = t := Host.Outcome.next.inj (hf.symm.trans hexec)
  have h := command_forward hs hforward
  exact ⟨h.ref, fun sub => ⟨h.last sub, hbounds.2 sub⟩⟩

/-- Settles O11: neither command touches the clock or a subsystem. -/
theorem clkgetAndBrkchkAnswer : Obligations.ClkgetAndBrkchkAnswer := by
  intro s hs
  have hget : exec .clkget s = .next (command clockGet s) := rfl
  have hbreak (u : State) (hu : Ready u) :
      exec .brkchk u = .next { u with breakFlag := false, response := some (.flag u.breakFlag) } := by
    have hexec : exec .brkchk u = .next (command breakCheck u) := rfl
    rw [hexec, command_ready hu]
    exact congrArg _ (respond_ready (s := { begun u with breakFlag := false }) hu)
  refine ⟨?_, hbreak s hs, hbreak { s with breakFlag := false } hs⟩
  rw [hget, command_ready hs]
  exact congrArg _ (respond_ready (s := begun s) hs)

/-- Settles O12: CLKADD is `addClock`, on either side of the clock's bound. -/
theorem clkaddAdvancesTheClock : Obligations.ClkaddAdvancesTheClock := by
  intro s n hs
  have hexec : exec (.clkadd n) s = .next (command (addClock n.toNat) s) := rfl
  rw [hexec, command_ready hs]
  refine ⟨fun h => congrArg _ (addClock_room (s := begun s) h), fun h => congrArg _ ?_⟩
  rw [addClock_full (s := begun s) h]
  exact raise_ready (s := begun s) hs

end Sys2Proof.Machine
end

section
/-! SUPPORT. The horizon (R243-R245, R287): HORIZON answers the least next event, and before its next event a subsystem
disturbs neither the interrupts nor the wake logic. -/

namespace Sys2Proof.Machine

open Sys2Proof.Safety

/-! ## The least next event -/

/-- Some subsystem of HSET is overdue. -/
theorem overdue_iff (s : State) : overdue s = true ↔ ∃ sub, sub ≠ .camera ∧ nextEvent sub s = 0 := by
  simp only [overdue, horizonSet, List.any_eq_true, decide_eq_true_eq, Nat.lt_one_iff]
  refine exists_congr fun sub => and_congr_left fun _ => ?_
  cases sub <;> decide

/-- A number is at most the horizon if it is at most INF and every next event of HSET. -/
theorem le_horizonOf_iff (s : State) (n : Nat) :
    n ≤ horizonOf s ↔ n ≤ inf ∧ ∀ sub, sub ≠ .camera → n ≤ nextEvent sub s := by
  simp only [horizonOf, horizonSet, List.foldl_cons, List.foldl_nil, le_min_iff]
  constructor
  · rintro ⟨⟨⟨⟨⟨hinf, htimer⟩, hppu⟩, hserial⟩, hdma⟩, hsound⟩
    refine ⟨hinf, fun sub hsub => ?_⟩
    cases sub with
    | camera => contradiction
    | timer | ppu | serial | dma | sound => assumption
  · rintro ⟨hinf, h⟩
    exact ⟨⟨⟨⟨⟨hinf, h _ nofun⟩, h _ nofun⟩, h _ nofun⟩, h _ nofun⟩, h _ nofun⟩

/-- The horizon is INF or a next event of HSET. -/
theorem horizonOf_attained (s : State) : horizonOf s = inf ∨ ∃ sub, sub ≠ .camera ∧ horizonOf s = nextEvent sub s := by
  by_contra h
  push Not at h
  obtain ⟨hinf, hsub⟩ := h
  have hle := (le_horizonOf_iff s (horizonOf s)).1 le_rfl
  have hlt : horizonOf s + 1 ≤ horizonOf s := (le_horizonOf_iff s _).2
    ⟨lt_of_le_of_ne hle.1 hinf, fun sub hs => lt_of_le_of_ne (hle.2 sub hs) (hsub sub hs)⟩
  exact absurd hlt (Nat.not_succ_le_self _)

/-- Where no subsystem of HSET is overdue the horizon is stored (R243). -/
theorem setHorizon_due {s : State} (h : overdue (reconcileAll s) = false) :
    setHorizon s = { reconcileAll s with horizon := horizonOf (reconcileAll s) } := by
  simp only [setHorizon, h, Bool.false_eq_true, if_false]

/-- An overdue subsystem of HSET is a fault (R243, R282). -/
theorem setHorizon_overdue {s : State} (hs : s.fault = none) (h : overdue (reconcileAll s) = true) :
    setHorizon s = { reconcileAll s with fault := some .nextevt } := by
  simp only [setHorizon, h, if_true]
  exact raise_ready (by simp only [reconcileAll_keeps, hs])

theorem exec_horizon {s : State} (hs : Ready s) : exec .horizon s = .next (horizonCommand (begun s)) := by
  have h : exec .horizon s = .next (command horizonCommand s) := rfl
  rw [h, command_ready hs]

theorem exec_horizon_due {s : State} (hs : Ready s) (h : overdue (current s) = false) :
    exec .horizon s = .next { current s with
      horizon := horizonOf (current s), response := some (.clocks (horizonOf (current s))) } := by
  rw [exec_horizon hs, horizonCommand, setHorizon_due h]
  exact congrArg _ (respond_ready (s := { current s with horizon := _ }) ((current_fault s).trans hs))

theorem exec_horizon_overdue {s : State} (hs : Ready s) (h : overdue (current s) = true) :
    exec .horizon s = .next { current s with fault := some .nextevt } := by
  rw [exec_horizon hs, horizonCommand, setHorizon_overdue (s := begun s) hs h]
  exact congrArg _ (respond_faulted (s := { current s with fault := some .nextevt }) rfl)

/-- Settles O13: the horizon is the minimum over HSET, so it is attained and no next event is nearer. -/
theorem horizonIsTheLeastNextEvent : Obligations.HorizonIsTheLeastNextEvent := by
  intro s hs
  refine ⟨fun hdue => ?_, fun hover => exec_horizon_overdue hs ((overdue_iff _).2 hover)⟩
  have hnot : overdue (current s) = false := by
    rw [Bool.eq_false_iff, ne_eq, overdue_iff]
    rintro ⟨sub, hsub, hzero⟩
    have := hdue sub hsub
    omega
  have hle := (le_horizonOf_iff (current s) _).1 le_rfl
  exact ⟨_, exec_horizon_due hs hnot, (le_horizonOf_iff _ 1).2 ⟨by decide, hdue⟩, hle.1, hle.2, horizonOf_attained _⟩

/-! ## The timer before its next event -/

/-- The clocks in which a timer of period `p` overflows, from its divider and TIMA (R331). -/
def overflowIn (p sys tima : Nat) : Nat := (p - sys % p) + (0xFF - tima) * p

/-- The clocks in which an enabled timer overflows (R331). -/
def timerOverflow (t : Timer) : Nat := overflowIn (timerPeriod t.tac) t.sysClocks.toNat t.tima.toNat

/-- A clock takes the overflow one clock nearer, whether or not it ends a period. -/
theorem overflowIn_clock {p sys tima : Nat} (hp : p = 1024 ∨ p = 16 ∨ p = 64 ∨ p = 256) (htima : tima < 256)
    (h : 1 < overflowIn p sys tima) :
    overflowIn p ((sys + 1) % 65536) (if sys % p = p - 1 then (tima + 1) % 256 else tima) = overflowIn p sys tima - 1 ∧
    (sys % p = p - 1 → tima ≠ 255) := by
  unfold overflowIn at *
  obtain rfl | rfl | rfl | rfl := hp <;> split <;> omega

theorem overflowIn_le {p sys tima : Nat} (hp : p = 1024 ∨ p = 16 ∨ p = 64 ∨ p = 256) :
    overflowIn p sys tima ≤ 262144 := by
  unfold overflowIn
  obtain rfl | rfl | rfl | rfl := hp <;> omega

/-- A next event comes one clock nearer, and INF stays INF. -/
def ComesNearer (x x' : Nat) : Prop := (x < inf ∧ x' = x - 1) ∨ (x = inf ∧ x' = inf)

theorem ComesNearer.min {x x' y y' : Nat} (hx : ComesNearer x x') (hy : ComesNearer y y') :
    ComesNearer (min x y) (min x' y') := by
  unfold ComesNearer inf at *
  omega

theorem comesNearer_countdown {n : Nat} (h1 : n ≠ 1) (h4 : n ≤ 4) :
    ComesNearer (if n > 0 then n else inf) (if n - 1 > 0 then n - 1 else inf) := by
  unfold ComesNearer inf
  split_ifs <;> omega

theorem timerPeriod_cases (tac : BitVec 3) :
    (timerBit tac = 9 ∧ timerPeriod tac = 1024) ∨ (timerBit tac = 3 ∧ timerPeriod tac = 16) ∨
    (timerBit tac = 5 ∧ timerPeriod tac = 64) ∨ (timerBit tac = 7 ∧ timerPeriod tac = 256) := by
  unfold timerPeriod timerBit
  split <;> decide

theorem timerPeriod_mem (tac : BitVec 3) :
    timerPeriod tac = 1024 ∨ timerPeriod tac = 16 ∨ timerPeriod tac = 64 ∨ timerPeriod tac = 256 :=
  (timerPeriod_cases tac).imp And.right (Or.imp And.right (Or.imp And.right And.right))

/-- The signal falls at the clock that ends a period of the divider (R310, R311). -/
theorem timerSignal_falls_iff (t : Timer) :
    (timerSignal t && !timerSignal { t with sysClocks := t.sysClocks + 1 }) = true ↔
      t.tac.getLsbD 2 = true ∧ t.sysClocks.toNat % timerPeriod t.tac = timerPeriod t.tac - 1 := by
  have hlt := t.sysClocks.isLt
  have hnext : (t.sysClocks + 1).toNat = (t.sysClocks.toNat + 1) % 65536 := by simp [BitVec.toNat_add]
  simp only [timerSignal, BitVec.getLsbD, Nat.testBit_eq_decide_div_mod_eq, Bool.and_eq_true, Bool.not_eq_true',
    Bool.and_eq_false_iff, decide_eq_true_eq, decide_eq_false_iff_not, hnext]
  generalize t.sysClocks.toNat = x at *
  obtain ⟨hk, hp⟩ | ⟨hk, hp⟩ | ⟨hk, hp⟩ | ⟨hk, hp⟩ := timerPeriod_cases t.tac
  all_goals
    rw [hk, hp]
    norm_num
    omega

/-- The falling signal counts TIMA, short of its overflow (R312). -/
theorem stepDivider_noOverflow {t : Timer}
    (h : t.tac.getLsbD 2 = true ∧ t.sysClocks.toNat % timerPeriod t.tac = timerPeriod t.tac - 1 → t.tima ≠ 0xFF) :
    stepDivider t = { t with
      sysClocks := t.sysClocks + 1
      tima := if t.tac.getLsbD 2 = true ∧ t.sysClocks.toNat % timerPeriod t.tac = timerPeriod t.tac - 1
        then t.tima + 1 else t.tima } := by
  unfold stepDivider
  dsimp only
  simp only [timerSignal_falls_iff]
  split
  · rename_i hfalls
    exact if_neg (h hfalls)
  · rfl

theorem stepReload_running {t : Timer} (h : t.reloadCd ≠ 1) : stepReload t = { t with reloadCd := t.reloadCd - 1 } := by
  unfold stepReload
  rw [if_neg h]
  split
  · rename_i h0
    have h1 : t.reloadCd - 1 = t.reloadCd := by omega
    rw [h1]
  · rfl

theorem stepIrqCd_eq (t : Timer) : stepIrqCd t = { t with irqCd := t.irqCd - 1 } := by
  unfold stepIrqCd
  split
  · rename_i h0
    have h1 : t.irqCd - 1 = t.irqCd := by omega
    rw [h1]
  · rfl

theorem nextTimer_eq (t : Timer) :
    nextTimer t = min (if t.reloadCd > 0 then t.reloadCd else inf)
      (min (if t.irqCd > 0 then t.irqCd else inf) (if t.tac.getLsbD 2 = true then timerOverflow t else inf)) := rfl

/-- Before the next event neither countdown is at its last clock, and an enabled timer is not at its overflow. -/
theorem beforeEvent_timer {t : Timer} (h : 1 < nextTimer t) :
    t.reloadCd ≠ 1 ∧ t.irqCd ≠ 1 ∧ (t.tac.getLsbD 2 = true → 1 < timerOverflow t) := by
  rw [nextTimer_eq, lt_min_iff, lt_min_iff] at h
  obtain ⟨hreload, hirq, hoverflow⟩ := h
  refine ⟨?_, ?_, fun ht => by rwa [if_pos ht] at hoverflow⟩
  · rintro hr
    simp [hr] at hreload
  · rintro hi
    simp [hi] at hirq

/-- A clock before the timer's next event counts both countdowns down and the divider, and an enabled timer's overflow comes
one clock nearer (R313, R331). -/
theorem clockTimer_beforeEvent {t : Timer} (h : 1 < nextTimer t) :
    (clockTimer t).reloadCd = t.reloadCd - 1 ∧ (clockTimer t).irqCd = t.irqCd - 1 ∧ (clockTimer t).tac = t.tac ∧
    (t.tac.getLsbD 2 = true → timerOverflow (clockTimer t) = timerOverflow t - 1) := by
  obtain ⟨hreload, -, hoverflow⟩ := beforeEvent_timer h
  have hlate (hon : t.tac.getLsbD 2 = true) := overflowIn_clock (timerPeriod_mem t.tac) t.tima.isLt (hoverflow hon)
  have hclock : clockTimer t = { t with
      reloadCd := t.reloadCd - 1, irqCd := t.irqCd - 1, sysClocks := t.sysClocks + 1
      tima := if t.tac.getLsbD 2 = true ∧ t.sysClocks.toNat % timerPeriod t.tac = timerPeriod t.tac - 1
        then t.tima + 1 else t.tima } := by
    rw [clockTimer, stepReload_running hreload, stepIrqCd_eq, stepDivider_noOverflow]
    exact fun ⟨hon, hend⟩ hff => (hlate hon).2 hend (congrArg BitVec.toNat hff)
  rw [hclock]
  refine ⟨rfl, rfl, rfl, fun hon => ?_⟩
  refine Eq.trans ?_ (hlate hon).1
  simp only [timerOverflow, hon, true_and, apply_ite BitVec.toNat, BitVec.toNat_add]
  rfl

theorem nextTimer_beforeEvent {t : Timer} (hr : TimerRanges t) (h : 1 < nextTimer t) :
    ComesNearer (nextTimer t) (nextTimer (clockTimer t)) := by
  obtain ⟨hreload, hirq, hoverflow⟩ := beforeEvent_timer h
  obtain ⟨hreload', hirq', htac, hoverflow'⟩ := clockTimer_beforeEvent h
  rw [nextTimer_eq, nextTimer_eq, hreload', hirq', htac]
  refine (comesNearer_countdown hreload hr.1).min ((comesNearer_countdown hirq hr.2).min ?_)
  by_cases hon : t.tac.getLsbD 2 = true
  · rw [if_pos hon, if_pos hon, hoverflow' hon]
    exact .inl ⟨(overflowIn_le (timerPeriod_mem t.tac)).trans_lt (by decide), rfl⟩
  · rw [if_neg hon, if_neg hon]
    exact .inr ⟨rfl, rfl⟩

/-! ## The collaborators and OAM DMA before their next event -/

/-- Clocks to the next event of a subsystem, none where it has no pending one (R280, R287). -/
def pendingEvent (sub : Subsystem) (s : State) : Option Nat :=
  match sub with
  | .timer => if nextTimer s.timer < inf then some (nextTimer s.timer) else none
  | .serial => if s.params.hasSerial then s.serial.wait else none
  | .ppu => if s.params.hasPpu then
      (ppuWait s).map fun n => if s.doubleSpeed then 2 * n - (if s.ppu.halfClock then 1 else 0) else n
      else none
  | .sound => if s.params.hasSound then s.sound.wait else none
  | .dma => if s.odma.active then some (odmaClocks - s.odma.elapsed) else none
  | .camera => if s.params.hasCamera then s.camera.own.wait else none

theorem nextOf_eq (supplied : Bool) (c : CollabCore) :
    nextOf supplied c = (if supplied then c.wait else none).getD inf := by
  obtain ⟨core, _ | n⟩ := c <;> cases supplied <;> rfl

theorem nextEvent_eq_pending (sub : Subsystem) (s : State) : nextEvent sub s = (pendingEvent sub s).getD inf := by
  cases sub with
  | timer =>
    have hle : nextTimer s.timer ≤ inf := by
      have hlast : (if s.timer.tac.getLsbD 2 = true then timerOverflow s.timer else inf) ≤ inf := by
        split
        · exact (overflowIn_le (timerPeriod_mem _)).trans (by decide)
        · exact le_rfl
      exact (min_le_right _ _).trans ((min_le_right _ _).trans hlast)
    simp only [nextEvent, pendingEvent]
    split
    · rfl
    · rename_i h
      exact Nat.le_antisymm hle (Nat.le_of_not_lt h)
  | ppu =>
    simp only [nextEvent, nextPpu, pendingEvent]
    split
    · cases ppuWait s <;> rfl
    · rfl
  | dma =>
    simp only [nextEvent, nextDma, pendingEvent]
    split <;> rfl
  | serial | sound | camera => exact nextOf_eq _ _

/-- From `s` to `t` the subsystem has advanced `d` clocks towards its next event and neither requested an interrupt nor
stalled the CPU. -/
structure Undisturbed (sub : Subsystem) (d : Nat) (s t : State) : Prop where
  irqs : t.ifReg = s.ifReg
  stall : t.hdma.stall = s.hdma.stall
  pending : pendingEvent sub t = (pendingEvent sub s).map (· - d)

theorem waitLess_eq (w : Option Nat) : waitLess w = w.map (· - 1) := by
  cases w <;> rfl

theorem waitEnds_iff (w : Option Nat) : waitEnds w = true ↔ w = some 1 := beq_iff_eq

/-- A wait with more than a clock left does not end at this one. -/
theorem waitEnds_pending {w : Option Nat} (h : 1 < w.getD inf) : waitEnds w = false := by
  rw [Bool.eq_false_iff, ne_eq, waitEnds_iff]
  rintro rfl
  exact absurd h (lt_irrefl 1)

theorem tickTimer_undisturbed {s : State} (hr : TimerRanges s.timer) (h : 1 < nextTimer s.timer) :
    Undisturbed .timer 1 s (tickTimer s) where
  irqs := by
    unfold tickTimer
    rw [if_neg (beforeEvent_timer h).2.1]
  stall := (congrArg (fun u : State => u.hdma.stall) (tickTimer_frame s) :)
  pending := by
    simp only [pendingEvent, tickTimer_timer]
    obtain ⟨hlt, hnext⟩ | ⟨hinf, hnext⟩ := nextTimer_beforeEvent hr h
    · rw [hnext, if_pos hlt, if_pos ((Nat.sub_le _ _).trans_lt hlt), Option.map_some]
    · rw [hnext, hinf, if_neg (lt_irrefl inf), Option.map_none]

theorem tickSound_undisturbed {s : State} (h : 1 < (pendingEvent .sound s).getD inf) :
    Undisturbed .sound 1 s (tickSound s) := by
  unfold tickSound
  split
  · rename_i hs
    simp only [pendingEvent, hs, if_true] at h
    exact ⟨rfl, rfl, by simp [pendingEvent, hs, waitEnds_pending h, waitLess_eq]⟩
  · rename_i hs
    exact ⟨rfl, rfl, by simp [pendingEvent, hs]⟩

theorem tickSerial_undisturbed {s : State} (h : 1 < (pendingEvent .serial s).getD inf) :
    Undisturbed .serial 1 s (tickSerial s) := by
  unfold tickSerial
  split
  · rename_i hs
    simp only [pendingEvent, hs, if_true] at h
    simp only [waitEnds_pending h, Bool.false_eq_true, if_false]
    exact ⟨rfl, rfl, by simp [pendingEvent, hs, waitLess_eq]⟩
  · rename_i hs
    exact ⟨rfl, rfl, by simp [pendingEvent, hs]⟩

theorem tickCamera_undisturbed {s : State} (h : 1 < (pendingEvent .camera s).getD inf) :
    Undisturbed .camera 1 s (tickCamera s) := by
  unfold tickCamera
  split
  · rename_i hs
    simp only [pendingEvent, hs, if_true] at h
    simp only [waitEnds_pending h, Bool.false_eq_true, if_false]
    exact ⟨rfl, rfl, by simp [pendingEvent, hs, waitLess_eq]⟩
  · rename_i hs
    exact ⟨rfl, rfl, by simp [pendingEvent, hs]⟩

theorem tickOdma_undisturbed {s : State} (hr : OdmaRanges s.odma) (h : 1 < (pendingEvent .dma s).getD inf) :
    Undisturbed .dma 1 s (tickOdma s) where
  irqs := (congrArg State.ifReg (tickOdma_frame s) :)
  stall := (congrArg (fun u : State => u.hdma.stall) (tickOdma_frame s) :)
  pending := by
    unfold tickOdma
    split
    · rename_i ha
      simp only [pendingEvent, ha, if_true, Option.getD_some] at h
      have hactive : s.odma.elapsed + 1 < odmaClocks := by omega
      simp only [pendingEvent, odmaClock_odma hr ha, ha, hactive, decide_true, if_true, Option.map_some, Nat.sub_sub]
    · rename_i ha
      simp [pendingEvent, ha]

/-! ## The PPU before its next event -/

theorem waitMin_map (w v : Option Nat) : waitMin (w.map (· - 1)) (v.map (· - 1)) = (waitMin w v).map (· - 1) := by
  cases w <;> cases v <;> simp [waitMin]
  omega

/-- A mode-0 entry is at least as far as the nearer of two events. -/
theorem waitMin_late {w v : Option Nat} (h : 1 < (waitMin w v).getD inf) : 1 < v.getD inf := by
  cases w <;> cases v <;> simp [waitMin] at h ⊢
  all_goals omega

/-- While HBlank DMA runs no mode-0 entry comes before the event `Next_PPU` is bound by (R287, R432). -/
theorem not_entersHblank_early {s : State} (hm : s.hdma.mode = .hblank) (e : PpuStep) :
    entersHblank s.ppu.view (ppuAged s e false).view = false := by
  cases hmode : e.mode <;> cases hold : s.ppu.view.mode <;>
    simp [entersHblank, ppuAged, ppuMode, mayEnterHblank, hm, hmode, hold]

theorem onHblank_idle {s : State} (hm : s.hdma.mode ≠ .hblank) (ly : Byte) : onHblank ly s = s := by
  unfold onHblank
  split
  · contradiction
  · rfl
  · rfl

/-- A PPU clock before the PPU's next event moves the PPU's own fields alone, its waits by that clock. -/
theorem ppuClock_early {s : State} (h : waitEnds (ppuWait s) = false) :
    ∃ p : Ppu, ppuClock s = { s with ppu := p } ∧ p.own.wait = waitLess s.ppu.own.wait ∧
      p.halfClock = s.ppu.halfClock ∧ (waitEnds s.ppu.hblankIn = false → p.hblankIn = waitLess s.ppu.hblankIn) := by
  unfold ppuClock
  dsimp only
  rw [h]
  generalize Config.ppuStep _ _ _ _ _ = e
  have hirqs (u : State) : ppuIrqs e false u = u := rfl
  have hlate : waitEnds s.ppu.hblankIn = false → (ppuAged s e false).hblankIn = waitLess s.ppu.hblankIn := by
    intro hb
    simp [ppuAged, hb]
  rw [hirqs]
  split
  · rename_i henter
    have hm : s.hdma.mode ≠ .hblank := fun hm => by
      rw [not_entersHblank_early hm e] at henter
      contradiction
    unfold enterHblank
    dsimp only
    rw [onHblank_idle]
    · exact ⟨_, rfl, rfl, rfl, hlate⟩
    · exact hm
  · exact ⟨_, rfl, rfl, rfl, hlate⟩

/-- Before the PPU's next event a PPU clock takes it one PPU clock nearer. -/
theorem ppuWait_ppuClock {s : State} (h : 1 < (ppuWait s).getD inf) :
    ppuWait (ppuClock s) = (ppuWait s).map (· - 1) := by
  obtain ⟨p, hp, hwait, -, hlate⟩ := ppuClock_early (waitEnds_pending h)
  rw [hp]
  unfold ppuWait at *
  dsimp only
  split
  · rename_i hm
    rw [hm] at h
    rw [hwait, hlate (waitEnds_pending (waitMin_late h)), waitLess_eq, waitLess_eq, waitMin_map]
  · rw [hwait, waitLess_eq]
  · rw [hwait, waitLess_eq]

/-- Clocks of the reference to an event `n` PPU clocks away (R436). -/
def ppuClocks (double half : Bool) (n : Nat) : Nat := if double then 2 * n - (if half then 1 else 0) else n

theorem pendingEvent_ppu {s : State} (hp : s.params.hasPpu = true) :
    pendingEvent .ppu s = (ppuWait s).map (ppuClocks s.doubleSpeed s.ppu.halfClock) := if_pos hp

/-- A reference clock that ends a PPU clock. -/
theorem ppuClocks_whole {double half : Bool} (h : ¬ (double && !half) = true) (n : Nat) :
    ppuClocks double false (n - 1) = ppuClocks double half n - 1 := by
  cases double <;> cases half <;> simp [ppuClocks] at h ⊢
  omega

theorem ppuClocks_late {double half : Bool} (h : ¬ (double && !half) = true) {w : Option Nat}
    (hw : 1 < (w.map (ppuClocks double half)).getD inf) : 1 < w.getD inf := by
  cases w with
  | none => exact hw
  | some n =>
    cases double <;> cases half <;> simp [ppuClocks] at h hw ⊢ <;> omega

theorem tickPpu_undisturbed {s : State} (h : 1 < (pendingEvent .ppu s).getD inf) :
    Undisturbed .ppu 1 s (tickPpu s) := by
  unfold tickPpu
  split
  · rename_i hppu
    rw [pendingEvent_ppu hppu] at h
    split
    · rename_i hhalf
      obtain ⟨hdouble, hhalf⟩ : s.doubleSpeed = true ∧ s.ppu.halfClock = false := by simpa using hhalf
      refine ⟨rfl, rfl, ?_⟩
      rw [pendingEvent_ppu, pendingEvent_ppu hppu, Option.map_map, hhalf]
      · simp only [hdouble]
        rfl
      · exact hppu
    · rename_i hwhole
      have hlate := ppuClocks_late hwhole h
      generalize hu : ({ s with ppu := { s.ppu with halfClock := false } } : State) = u
      have hwait : ppuWait s = ppuWait u := by rw [← hu]; rfl
      rw [hwait] at hlate
      have hnext := ppuWait_ppuClock hlate
      obtain ⟨p, hp, -, hhalf, -⟩ := ppuClock_early (waitEnds_pending hlate)
      rw [hp] at hnext ⊢
      subst hu
      refine ⟨rfl, rfl, ?_⟩
      rw [pendingEvent_ppu, hnext, pendingEvent_ppu hppu, hwait, Option.map_map, Option.map_map]
      · refine congrArg (Option.map · _) (funext fun n => ?_)
        exact (congrArg (ppuClocks s.doubleSpeed · (n - 1)) hhalf).trans (ppuClocks_whole hwhole n)
      · exact hppu
  · rename_i hppu
    exact ⟨rfl, rfl, by simp [pendingEvent, hppu]⟩

/-! ## The law -/

theorem tickSub_undisturbed {sub : Subsystem} {s : State} (hr : FieldRanges s) (h : 1 < nextEvent sub s) :
    Undisturbed sub 1 s (tickSub sub s) := by
  obtain ⟨htimer, hodma, -⟩ := (fieldRanges_iff s).1 hr
  have hlate := h
  rw [nextEvent_eq_pending] at hlate
  cases sub with
  | timer => exact tickTimer_undisturbed htimer h
  | serial => exact tickSerial_undisturbed hlate
  | ppu => exact tickPpu_undisturbed hlate
  | sound => exact tickSound_undisturbed hlate
  | dma => exact tickOdma_undisturbed hodma hlate
  | camera => exact tickCamera_undisturbed hlate

/-- Short of its next event a subsystem advances undisturbing (R287). -/
theorem advance_undisturbed {sub : Subsystem} {d : Nat} {s : State} (hr : FieldRanges s) (h : d < nextEvent sub s) :
    Undisturbed sub d s (advance sub d s) := by
  induction d generalizing s with
  | zero => exact ⟨rfl, rfl, by simp [advance]⟩
  | succ d ih =>
    have hone : Undisturbed sub 1 s (tickSub sub s) := tickSub_undisturbed hr (by omega)
    have hnext : d < nextEvent sub (tickSub sub s) := by
      rw [nextEvent_eq_pending] at h ⊢
      rw [hone.pending]
      cases hp : pendingEvent sub s with
      | none =>
        rw [hp] at h
        exact (Nat.lt_succ_self d).trans h
      | some n =>
        rw [hp] at h
        exact Nat.lt_sub_of_add_lt h
    have hrest := ih ((tickSub_upholds sub s).ranges hr) hnext
    refine ⟨hrest.irqs.trans hone.irqs, hrest.stall.trans hone.stall, hrest.pending.trans ?_⟩
    rw [hone.pending, Option.map_map]
    exact congrArg (Option.map · _) (funext fun n => Nat.sub_sub n 1 d |>.trans (by rw [Nat.add_comm]))

/-- Settles O20: one clock with more than one clock to the next event disturbs nothing and takes it one clock nearer, and so
do `d` of them. -/
theorem horizonLaw : Obligations.HorizonLaw := by
  intro sub d s hr h
  obtain ⟨hirqs, hstall, hpending⟩ := advance_undisturbed hr h
  have hframe := advance_only sub d s
  unfold AdvanceOnly at hframe
  refine ⟨hirqs, hstall, (congrArg State.ieReg hframe :), (congrArg State.ime hframe :), (congrArg State.haltMode hframe :),
    (congrArg State.joypad hframe :), ?_⟩
  simp only [nextEvent_eq_pending, hpending]
  cases pendingEvent sub s with
  | none => exact .inr ⟨rfl, rfl⟩
  | some n => exact .inl rfl

end Sys2Proof.Machine
end

section
/-! SUPPORT. The response port is the host's (R149): no advance of a subsystem, no DMA and no clock reads or writes it. -/

namespace Sys2Proof.Machine

open Sys2Proof.Safety

/-! ## Reads through the mapper -/

theorem romRead_begun (bank off : Nat) (s : State) :
    romRead (begun s) bank off = ((romRead s bank off).1, begun (romRead s bank off).2) := by
  unfold romRead
  dsimp only
  split <;> rfl

theorem windowRead_begun (a : Nat) (s : State) :
    windowRead (begun s) a = ((windowRead s a).1, begun (windowRead s a).2) := by
  have hcamera : cameraRead a (begun s) = ((cameraRead a s).1, begun (cameraRead a s).2) := by
    unfold cameraRead
    dsimp only
    split <;> rfl
  have hselected : cameraSelected (begun s) a = cameraSelected s a := rfl
  unfold windowRead
  rw [hselected]
  split
  · exact hcamera
  · dsimp only
    generalize s.mapper = m
    cases m with
    | mbc3 m | mbc7 m =>
      dsimp only
      split <;> rfl
    | _ => rfl

theorem mapperRead_begun (a : Nat) (s : State) :
    mapperRead (begun s) a = ((mapperRead s a).1, begun (mapperRead s a).2) := by
  have hbanked : bankedRead (begun s) a = ((bankedRead s a).1, begun (bankedRead s a).2) := by
    unfold bankedRead
    split_ifs
    · exact romRead_begun _ _ s
    · exact romRead_begun _ _ s
    · exact windowRead_begun a s
  unfold mapperRead
  dsimp only
  split
  · rfl
  all_goals exact hbanked

theorem dmaSrcRead_begun (a : Addr) (s : State) :
    dmaSrcRead (begun s) a = ((dmaSrcRead s a).1, begun (dmaSrcRead s a).2) := by
  have hrom0 (n : Nat) : rom0Read (begun s) n = ((rom0Read s n).1, begun (rom0Read s n).2) := by
    have hoverlaid : overlaid (begun s) n = overlaid s n := rfl
    unfold rom0Read
    rw [hoverlaid]
    dsimp only
    split
    · rfl
    · exact mapperRead_begun n s
  unfold dmaSrcRead
  dsimp only
  cases regionOf a with
  | rom0 => exact hrom0 _
  | romX | eram => exact mapperRead_begun _ s
  | _ => rfl

/-! ## One clock of a subsystem -/

theorem tickTimer_begun (s : State) : tickTimer (begun s) = begun (tickTimer s) := by
  unfold tickTimer
  dsimp only
  split <;> rfl

theorem odmaCopyOne_begun (s : State) : odmaCopyOne (begun s) = begun (odmaCopyOne s) := by
  have hnext : odmaNext (begun s) = odmaNext s := rfl
  unfold odmaCopyOne
  rw [hnext, dmaSrcRead_begun]

theorem odmaCopy_begun (n : Nat) (s : State) : odmaCopy n (begun s) = begun (odmaCopy n s) := by
  induction n generalizing s with
  | zero => rfl
  | succ n ih => rw [odmaCopy, odmaCopyOne_begun, ih, odmaCopy]

theorem tickOdma_begun (s : State) : tickOdma (begun s) = begun (tickOdma s) := by
  unfold tickOdma
  dsimp only
  split
  · unfold odmaClock
    have h := odmaCopy_begun (odmaTarget (s.odma.elapsed + 1) - s.odma.copied)
      { s with odma := { s.odma with elapsed := s.odma.elapsed + 1 } }
    dsimp only at h ⊢
    rw [h]
    split <;> rfl
  · rfl

theorem copyBlockByte_begun (i : Nat) (s : State) : copyBlockByte i (begun s) = begun (copyBlockByte i s) := by
  have hread (n : Nat) : hdmaSrcRead (begun s) n = ((hdmaSrcRead s n).1, begun (hdmaSrcRead s n).2) := by
    unfold hdmaSrcRead
    split
    · rfl
    · exact dmaSrcRead_begun _ s
  have htarget : hdmaTarget (begun s) i = hdmaTarget s i := rfl
  unfold copyBlockByte
  rw [htarget, hread]

theorem copyBytes_begun (l : List Nat) (s : State) :
    l.foldl (fun s i => copyBlockByte i s) (begun s) = begun (l.foldl (fun s i => copyBlockByte i s) s) := by
  induction l generalizing s with
  | nil => rfl
  | cons i l ih => rw [List.foldl_cons, copyBlockByte_begun, ih, List.foldl_cons]

theorem copyBlock_begun (s : State) : copyBlock (begun s) = begun (copyBlock s) := by
  unfold copyBlock
  rw [copyBytes_begun]

theorem finishIfDone_begun (s : State) : finishIfDone (begun s) = begun (finishIfDone s) := by
  unfold finishIfDone
  dsimp only
  split <;> rfl

theorem onHblank_begun (ly : Byte) (s : State) : onHblank ly (begun s) = begun (onHblank ly s) := by
  unfold onHblank
  dsimp only
  split
  · split
    · rfl
    · rw [copyBlock_begun]
      exact finishIfDone_begun { copyBlock s with
        hdma := { (copyBlock s).hdma with
          lastLy := some ly, stall := (copyBlock s).hdma.stall + gdmaBlockClocks s } }
  · rfl
  · rfl

theorem ppuIrqs_begun (e : PpuStep) (ended : Bool) (s : State) :
    ppuIrqs e ended (begun s) = begun (ppuIrqs e ended s) := by
  unfold ppuIrqs
  dsimp only
  split <;> split <;> rfl

theorem enterHblank_begun (ly : Byte) (s : State) : enterHblank ly (begun s) = begun (enterHblank ly s) :=
  onHblank_begun ly { s with ppu := { s.ppu with own := { s.ppu.own with
    core := Config.ppuDraw s.renderer ly s.ppu.own.core s.vram.read s.oam.read } } }

theorem ppuClock_begun (s : State) : ppuClock (begun s) = begun (ppuClock s) := by
  have hcontext : collabContext (begun s) = collabContext s := rfl
  have hwait : ppuWait (begun s) = ppuWait s := rfl
  have haged (e : PpuStep) (ended : Bool) : ppuAged (begun s) e ended = ppuAged s e ended := rfl
  have hirqs (e : PpuStep) (ended : Bool) := ppuIrqs_begun e ended { s with ppu := ppuAged s e ended }
  unfold ppuClock
  dsimp only at hirqs ⊢
  rw [hcontext, hwait, haged, hirqs]
  generalize ppuIrqs _ _ _ = u
  split
  · exact enterHblank_begun _ u
  · rfl

theorem tickPpu_begun (s : State) : tickPpu (begun s) = begun (tickPpu s) := by
  unfold tickPpu
  dsimp only
  split
  · split
    · rfl
    · exact ppuClock_begun { s with ppu := { s.ppu with halfClock := false } }
  · rfl

theorem tickSound_begun (s : State) : tickSound (begun s) = begun (tickSound s) := by
  unfold tickSound
  dsimp only
  split <;> rfl

theorem serialTransition_begun (s : State) : serialTransition (begun s) = begun (serialTransition s) := by
  have hdone : serialDone (begun s) = serialDone s := rfl
  have hbyte : serialIncoming (begun s) = ((serialIncoming s).1, begun (serialIncoming s).2) := by
    unfold serialIncoming
    dsimp only
    split <;> rfl
  unfold serialTransition
  rw [hdone, hbyte]
  split <;> rfl

theorem tickSerial_begun (s : State) : tickSerial (begun s) = begun (tickSerial s) := by
  unfold tickSerial
  dsimp only
  split
  · split
    · exact serialTransition_begun { s with
        serial := { core := ageCore .serial s.serial.core s, wait := waitLess s.serial.wait } }
    · rfl
  · rfl

theorem copyFrame_begun (l : List Byte) (i : Nat) (s : State) : copyFrame l i (begun s) = begun (copyFrame l i s) := by
  induction l generalizing i s with
  | nil => rfl
  | cons v l ih =>
    unfold copyFrame
    rw [← ih]
    dsimp only
    split <;> rfl

theorem logOnce_begun (k : AnomalyKind) (s : State) : logOnce k (begun s) = begun (logOnce k s) := by
  have hlog : runLog (begun s) = runLog s := rfl
  unfold logOnce
  rw [hlog]
  split <;> rfl

theorem cameraCapture_begun (s : State) : cameraCapture (begun s) = begun (cameraCapture s) := by
  unfold cameraCapture
  dsimp only
  rw [← copyFrame_begun, logOnce_begun]
  split <;> split <;> rfl

theorem tickCamera_begun (s : State) : tickCamera (begun s) = begun (tickCamera s) := by
  have htransition (u : State) : cameraTransition (begun u) = begun (cameraTransition u) := by
    unfold cameraTransition
    rw [cameraCapture_begun]
    dsimp only
    split <;> rfl
  unfold tickCamera
  dsimp only
  split
  · split
    · exact htransition { s with camera := { s.camera with own :=
        { core := ageCore .camera s.camera.own.core s, wait := waitLess s.camera.own.wait } } }
    · rfl
  · rfl

theorem tickSub_begun (sub : Subsystem) (s : State) : tickSub sub (begun s) = begun (tickSub sub s) := by
  cases sub with
  | timer => exact tickTimer_begun s
  | serial => exact tickSerial_begun s
  | ppu => exact tickPpu_begun s
  | sound => exact tickSound_begun s
  | dma => exact tickOdma_begun s
  | camera => exact tickCamera_begun s

/-! ## Reconciliation and general DMA -/

theorem lockClock_begun (c : Nat) (s : State) : lockClock c (begun s) = begun (lockClock c s) := by
  have hone (u : State) (sub : Subsystem) : lockOne c (begun u) sub = begun (lockOne c u sub) := by
    unfold lockOne
    rw [tickSub_begun]
    dsimp only
    split <;> rfl
  unfold lockClock
  generalize lockOrder = l
  induction l generalizing s with
  | nil => rfl
  | cons sub l ih => rw [List.foldl_cons, hone, ih, List.foldl_cons]

theorem lockstep_begun (k r : Nat) (s : State) : lockstep k r (begun s) = begun (lockstep k r s) := by
  induction k generalizing s with
  | zero => rfl
  | succ k ih =>
    unfold lockstep
    rw [lockClock_begun, ih]
    dsimp only
    split <;> rfl

/-- What a bus access sees is the reconciled state, its port empty. -/
theorem current_eq (s : State) : current s = begun (reconcileAll s) := by
  rw [current, reconcileAll_eq, reconcileAll_eq, lockstep_begun]

theorem addClock_begun (n : Nat) (s : State) : addClock n (begun s) = begun (addClock n s) := by
  unfold addClock raise
  dsimp only
  split
  · split <;> rfl
  · rfl

theorem unlessFaulted_begun {f : State → State} (hf : ∀ u, f (begun u) = begun (f u)) (s : State) :
    unlessFaulted (begun s) f = begun (unlessFaulted s f) := by
  unfold unlessFaulted
  rw [hf]
  dsimp only
  split <;> rfl

theorem gdmaBlock_begun (s : State) : gdmaBlock (begun s) = begun (gdmaBlock s) := by
  have hcurrent : reconcileAll (begun s) = begun (reconcileAll s) := current_eq s
  unfold gdmaBlock
  rw [hcurrent, copyBlock_begun]
  generalize copyBlock (reconcileAll s) = u
  exact addClock_begun (gdmaBlockClocks u) u

theorem gdmaLoop_begun (start c k : Nat) (s : State) :
    gdmaLoop start c k (begun s) = begun (gdmaLoop start c k s) := by
  induction k generalizing s with
  | zero => rfl
  | succ k ih =>
    unfold gdmaLoop
    rw [gdmaBlock_begun, unlessFaulted_begun]
    intro u
    rw [ih]
    dsimp only
    split
    · rfl
    · split <;> rfl

theorem gdmaRun_begun (c : Nat) (s : State) : gdmaRun c (begun s) = begun (gdmaRun c s) := by
  have hprep : payPrep c (begun s) = begun (payPrep c s) :=
    addClock_begun _ { s with hdma := { s.hdma with prepLeft := s.hdma.prepLeft - prepClocks c s } }
  unfold gdmaRun
  rw [hprep, gdmaLoop_begun]
  dsimp only
  split
  · rw [unlessFaulted_begun]
    intro u
    rw [gdmaLoop_begun]
    dsimp only
    split <;> rfl
  · rfl

end Sys2Proof.Machine
end

section
/-! SUPPORT. The CPU step and the burst step (R248, R252, R253): what a step may issue, its steps without an instruction, and
that every burst step without a fault makes progress. -/

namespace Sys2Proof.Machine

open Sys2Proof.Safety

/-! ## The commands of a CPU step -/

/-- Every command a CPU step may issue has the effect `exec` gives it. -/
theorem exec_cpuRule {i : Instr} {f : State → State} (h : cpuRule i = some f) (s : State) :
    exec i s = .next (command f s) := by
  cases i <;> simp only [cpuRule, Option.some.injEq, reduceCtorEq] at h <;> subst h <;> rfl

theorem collectReply_eq (s : State) : collectReply s = { s with cpuReplies := s.cpuReplies ++ s.response.toList } := by
  unfold collectReply
  split
  · rename_i r hr
    rw [hr]
    rfl
  · rename_i hr
    have happend : s.cpuReplies ++ s.response.toList = s.cpuReplies := by rw [hr, Option.toList_none, List.append_nil]
    rw [happend]

theorem cpuIssueWord_admitted {w : Word} {i : Instr} {f : State → State} (hw : decode w = .ok i)
    (hi : cpuRule i = some f) (s : State) : cpuIssueWord w s = collectReply (command f s) := by
  simp only [cpuIssueWord, hw, cpuIssue, hi]

theorem cpuIssueWord_protocol {w : Word} {i : Instr} (hw : decode w = .ok i) (hi : cpuRule i = none) (s : State) :
    cpuIssueWord w s = raise .cpuProtocol s := by
  simp only [cpuIssueWord, hw, cpuIssue, hi]

/-! ## What a state without a fault says of the operation that led there -/

theorem raise_fault_ne (f : Fault) (s : State) : (raise f s).fault ≠ none := by
  unfold raise
  split
  · exact nofun
  · rename_i h
    rw [h]
    exact nofun

theorem unlessFaulted_unfaulted {f : State → State} {s : State} (h : (unlessFaulted s f).fault = none) :
    s.fault = none ∧ unlessFaulted s f = f s := by
  cases hs : s.fault with
  | none => exact ⟨rfl, unlessFaulted_ready hs⟩
  | some k =>
    rw [unlessFaulted_faulted hs, hs] at h
    contradiction

theorem command_unfaulted {f : State → State} {s : State} (h : (command f s).fault = none) :
    s.fault = none ∧ command f s = f (begun s) := unlessFaulted_unfaulted (s := begun s) h

/-- Clocks added without a fault are on the clock (R241). -/
theorem addClock_unfaulted {n : Nat} {s : State} (h : (addClock n s).fault = none) :
    s.fault = none ∧ addClock n s = { s with ref := s.ref + n } := by
  by_cases hn : s.ref + n ≤ 0x7FFFFFFF
  · rw [addClock_room hn] at h
    exact ⟨h, addClock_room hn⟩
  · rw [addClock_full (Nat.lt_of_not_le hn)] at h
    exact absurd h (raise_fault_ne _ _)

/-! ## A CPU step consumes its CLKADDs -/

theorem cpuIssueWord_advances {w : Word} {s : State} (h : (cpuIssueWord w s).fault = none) :
    s.ref + clkaddOf w ≤ (cpuIssueWord w s).ref := by
  have honward := (cpuIssueWord_onward w s).ref
  unfold clkaddOf
  split
  · rename_i n hw
    rw [cpuIssueWord_admitted hw rfl, collectReply_eq] at h ⊢
    obtain ⟨-, hcommand⟩ := command_unfaulted h
    rw [hcommand] at h ⊢
    exact (congrArg State.ref (addClock_unfaulted h).2).ge
  · exact honward

theorem cpuRun_faulted {next : Nat → List Response → Option Word} {k issued clocks : Nat} {s : State} {f : Fault}
    (h : s.fault = some f) : cpuRun next k issued clocks s = (clocks, s) := by
  cases k with
  | zero => rfl
  | succ k => simp only [cpuRun, h]

/-- A run without a fault advances the clock by at least the operands it counts. -/
theorem cpuRun_advances {next : Nat → List Response → Option Word} {k issued clocks : Nat} {s : State}
    (h : (cpuRun next k issued clocks s).2.fault = none) :
    s.ref + (cpuRun next k issued clocks s).1 ≤ (cpuRun next k issued clocks s).2.ref + clocks := by
  induction k generalizing issued clocks s with
  | zero => exact le_rfl
  | succ k ih =>
    unfold cpuRun at h ⊢
    split at h
    · rename_i w _ _
      cases hw : (cpuIssueWord w s).fault with
      | none =>
        have hone := cpuIssueWord_advances hw
        have hrest := ih h
        omega
      | some f =>
        rw [cpuRun_faulted hw, hw] at h
        contradiction
    · exact le_rfl

/-- A step that ends without a fault counted a clock at least (R252). -/
theorem cpuEnd_unfaulted {r : Nat × State} (h : (cpuEnd r).fault = none) :
    r.1 ≠ 0 ∧ r.2.fault = none ∧ (cpuEnd r).ref = r.2.ref := by
  by_cases hr : r.1 = 0
  · rw [cpuEnd, if_pos hr] at h
    exact absurd h (raise_fault_ne _ _)
  · rw [cpuEnd, if_neg hr] at h ⊢
    exact ⟨hr, h, rfl⟩

/-- A CPU step without a fault advances the clock (R252). -/
theorem cpuStep_advances {s : State} (h : (cpuStep s).fault = none) : s.ref < (cpuStep s).ref := by
  have hend {next : Nat → List Response → Option Word} {k : Nat} {u : State}
      (hu : (cpuEnd (cpuRun next k 0 0 u)).fault = none) : u.ref < (cpuEnd (cpuRun next k 0 0 u)).ref := by
    obtain ⟨hclocks, hfault, href⟩ := cpuEnd_unfaulted hu
    have hrun := cpuRun_advances hfault
    omega
  unfold cpuStep at h ⊢
  split at h
  · exact hend h
  · exact hend h

/-! ## The burst step under general DMA -/

theorem tickPpu_hdma {s : State} (hm : s.hdma.mode ≠ .hblank) : (tickPpu s).hdma = s.hdma := by
  have hirqs (e : PpuStep) (ended : Bool) (u : State) : (ppuIrqs e ended u).hdma = u.hdma :=
    (congrArg State.hdma (ppuIrqs_frame e ended u)).trans rfl
  have henter (ly : Byte) {u : State} (hu : u.hdma = s.hdma) : (enterHblank ly u).hdma = s.hdma := by
    unfold enterHblank
    dsimp only
    rw [onHblank_idle]
    · exact hu
    · rwa [hu]
  unfold tickPpu
  split
  · split
    · rfl
    · unfold ppuClock
      dsimp only
      split
      · exact henter _ (hirqs _ _ _)
      · exact hirqs _ _ _
  · rfl

/-- Without HBlank DMA a reconciliation leaves the HDMA fields alone (R366). -/
theorem reconcileAll_hdma {s : State} (hm : s.hdma.mode ≠ .hblank) : (reconcileAll s).hdma = s.hdma :=
  reconcileAll_invariant (P := fun u => u.hdma = s.hdma)
    (fun u sub hu => by
      by_cases hsub : sub = .ppu
      · exact hsub ▸ (tickPpu_hdma (by rwa [hu])).trans hu
      · exact (tickSub_hdma hsub u).trans hu)
    (fun _ _ _ hu => hu) rfl

/-- A block moves the pointers and counts its bytes (R368). -/
theorem copyBlock_hdma (s : State) : (copyBlock s).hdma = { s.hdma with
    src := s.hdma.src + 16, dst := 0x8000#16 ||| ((s.hdma.dst + 16) &&& 0x1FFF#16)
    remaining := s.hdma.remaining - 16 } := by
  have h := copyBytes_frame (List.range 16) s
  unfold copyBlock
  dsimp only
  rw [h]

/-- A block of general DMA counts its bytes and leaves the mode. -/
theorem gdmaBlock_hdma {s : State} (hm : s.hdma.mode = .general) :
    (gdmaBlock s).hdma.mode = .general ∧ (gdmaBlock s).hdma.remaining = s.hdma.remaining - 16 := by
  have hreconcile := reconcileAll_hdma (s := s) (by rw [hm]; exact nofun)
  have hblock : (gdmaBlock s).hdma = (copyBlock (reconcileAll s)).hdma :=
    (congrArg State.hdma (addClock_frame (gdmaBlockClocks (copyBlock (reconcileAll s))) _)).trans rfl
  rw [hblock, copyBlock_hdma, hreconcile]
  exact ⟨hm, rfl⟩

/-- The block loop stops after the clock has moved or with the transfer over. -/
theorem gdmaLoop_progress {start c k : Nat} {s : State} (hc : 1 ≤ c) (hm : s.hdma.mode = .general)
    (hk : s.hdma.remaining < k) (h : (gdmaLoop start c k s).fault = none) :
    start < (gdmaLoop start c k s).ref ∨ (gdmaLoop start c k s).hdma.mode = .none := by
  induction k generalizing s with
  | zero => exact absurd hk (Nat.not_lt_zero _)
  | succ k ih =>
    obtain ⟨hmode, hremaining⟩ := gdmaBlock_hdma hm
    unfold gdmaLoop at h ⊢
    obtain ⟨-, hrun⟩ := unlessFaulted_unfaulted h
    rw [hrun] at h ⊢
    generalize gdmaBlock s = u at *
    split_ifs at h ⊢ with hover hbudget
    · exact .inr rfl
    · exact .inl (by omega)
    · exact ih hmode (by omega) h

theorem gdmaRun_progress {c : Nat} {s : State} (hc : 1 ≤ c) (hm : s.hdma.mode = .general)
    (h : (gdmaRun c s).fault = none) : s.ref < (gdmaRun c s).ref ∨ (gdmaRun c s).hdma.mode = .none := by
  unfold gdmaRun at h ⊢
  split_ifs at h ⊢ with hprep
  · obtain ⟨hpaid, hrun⟩ := unlessFaulted_unfaulted h
    have hclocks : 1 ≤ prepClocks c s := by
      unfold prepClocks
      omega
    have href : (payPrep c s).ref = s.ref + prepClocks c s := congrArg State.ref (addClock_unfaulted hpaid).2
    rw [hrun]
    left
    split
    · omega
    · have hloop := (gdmaLoop_onward s.ref c ((payPrep c s).hdma.remaining + 1) (payPrep c s)).ref
      omega
  · exact gdmaLoop_progress hc hm (Nat.lt_succ_self _) h

theorem addClock_breakFlag (n : Nat) (s : State) : (addClock n s).breakFlag = s.breakFlag :=
  (congrArg State.breakFlag (addClock_frame n s)).trans rfl

theorem gdmaBlock_breakFlag (s : State) : (gdmaBlock s).breakFlag = s.breakFlag := by
  have hcopy (u : State) : (copyBlock u).breakFlag = u.breakFlag := (congrArg State.breakFlag (copyBlock_frame u) :)
  rw [gdmaBlock, addClock_breakFlag, hcopy]
  simp only [reconcileAll_keeps]

/-- An operation under the guard keeps a field that it keeps without it. -/
theorem unlessFaulted_breakFlag {f : State → State} (h : ∀ u, (f u).breakFlag = u.breakFlag) (s : State) :
    (unlessFaulted s f).breakFlag = s.breakFlag := by
  unfold unlessFaulted
  split
  · exact h s
  · rfl

theorem gdmaLoop_breakFlag (start c k : Nat) (s : State) : (gdmaLoop start c k s).breakFlag = s.breakFlag := by
  induction k generalizing s with
  | zero => rfl
  | succ k ih =>
    refine (unlessFaulted_breakFlag (fun u => ?_) _).trans (gdmaBlock_breakFlag s)
    split_ifs
    · rfl
    · rfl
    · exact ih u

/-- General DMA ends no burst (R370). -/
theorem gdmaRun_breakFlag (c : Nat) (s : State) : (gdmaRun c s).breakFlag = s.breakFlag := by
  unfold gdmaRun
  split
  · refine (unlessFaulted_breakFlag (fun u => ?_) _).trans (addClock_breakFlag _ _)
    split
    · rfl
    · exact gdmaLoop_breakFlag _ _ _ u
  · exact gdmaLoop_breakFlag _ _ _ s

/-- DMAEXEC of running general DMA without a fault: the transfer's clocks on the port. -/
theorem dmaExec_general {c : Nat} {s : State} (hm : s.hdma.mode = .general) :
    dmaExec c s = respond (.clocks ((gdmaRun c s).ref - s.ref)) (gdmaRun c s) := by
  simp only [dmaExec, hm]

theorem respond_fault (r : Response) (s : State) : (respond r s).fault = s.fault :=
  (congrArg State.fault (respond_frame r s)).trans rfl

/-- A burst step under general DMA has moved the clock, or the transfer is over and the break flag is as it was. -/
theorem dmaExec_progress {c : Nat} {s : State} (hc : 1 ≤ c) (hm : s.hdma.mode = .general)
    (h : (dmaExec c s).fault = none) :
    s.ref < (dmaExec c s).ref ∨ ((dmaExec c s).hdma.mode = .none ∧ (dmaExec c s).breakFlag = s.breakFlag) := by
  rw [dmaExec_general hm] at h ⊢
  rw [respond_fault] at h
  rw [respond_ready h]
  exact (gdmaRun_progress hc hm h).imp_right fun hmode => ⟨hmode, gdmaRun_breakFlag c s⟩

/-! ## Steps in which no instruction runs -/

theorem roundup_spec (r : Nat) {g : Nat} (hg : 1 ≤ g) :
    r ≤ roundup r g ∧ roundup r g < r + g ∧ roundup r g % g = 0 := by
  have hdiv := Nat.div_add_mod (r + (g - 1)) g
  have hmod := Nat.mod_lt (r + (g - 1)) hg
  have hround : roundup r g = (r + (g - 1)) / g * g := if_neg (by omega)
  rw [hround, Nat.mul_mod_left, Nat.mul_comm]
  omega

theorem le_roundup (r g : Nat) : r ≤ roundup r g := by
  by_cases hg : 1 ≤ g
  · exact (roundup_spec r hg).1
  · exact (if_pos (by omega) : roundup r g = r).ge

/-- An interrupt check that decides nothing leaves the reconciled state, 0 clocks on the port. -/
theorem irqCheck_nothing {s : State} (hs : CpuMay s) (h : irqDecide (reconcileAll s) = reconcileAll s) :
    irqCheck s = { reconcileAll s with response := some (.clocks 0) } := by
  have hfault : (reconcileAll s).fault = none := by simp only [reconcileAll_keeps, hs.1]
  rw [irqCheck, unlessGdma_free hs.2]
  dsimp only
  rw [h, respond_ready hfault, reconcileAll_ref, Nat.sub_self]

theorem burstStep_general {s : State} (hm : s.hdma.mode = .general) :
    burstStep s = dmaExec (max 1 (burstLeft s)) s := by
  simp only [burstStep, hm]

theorem burstStep_stall {s : State} (hm : s.hdma.mode ≠ .general) (hstall : 0 < s.hdma.stall) :
    burstStep s = payStall s := by
  unfold burstStep
  split
  · contradiction
  · exact if_pos hstall
  · exact if_pos hstall

theorem burstStep_check {s : State} (hm : s.hdma.mode ≠ .general) (hstall : s.hdma.stall = 0) :
    burstStep s = unlessFaulted (irqCheck s) afterCheck := by
  have hnot : ¬ 0 < s.hdma.stall := Nat.not_lt.2 hstall.le
  unfold burstStep
  split
  · contradiction
  · exact if_neg hnot
  · exact if_neg hnot

/-- A step of a CPU that is halted or stopped and not woken: the check, then the advance to the burst's end (R248, R253). -/
theorem burstStep_idle {s : State} (hs : CpuMay s) (hstall : s.hdma.stall = 0) (hhalt : s.haltMode ≠ .run)
    (hdecide : irqDecide (reconcileAll s) = reconcileAll s) (hopen : s.ref - s.burstStart < s.horizon) :
    burstStep s = haltedAdvance { reconcileAll s with response := some (.clocks 0) } := by
  have hcheck := irqCheck_nothing hs hdecide
  have hfault : (irqCheck s).fault = none := by
    rw [hcheck]
    simp only [reconcileAll_keeps, hs.1]
  have hmode : (reconcileAll s).haltMode ≠ .run := by simpa only [reconcileAll_keeps] using hhalt
  rw [burstStep_check hs.2 hstall, unlessFaulted_ready hfault, hcheck, afterCheck, if_neg]
  · split
    · contradiction
    · rfl
    · rfl
  · simp only [reconcileAll_keeps]
    omega

/-- Where the clock has room that step ends at the least multiple of HALT_GRANULE past the burst's end (R253). -/
theorem burstStep_idleAdvances {s : State} (hs : CpuMay s) (hstall : s.hdma.stall = 0) (hhalt : s.haltMode ≠ .run)
    (hdecide : irqDecide (reconcileAll s) = reconcileAll s) (hopen : s.ref - s.burstStart < s.horizon)
    (hg : 1 ≤ s.params.haltGranule) (hstart : s.burstStart ≤ s.ref)
    (hroom : s.ref + (s.burstStart + s.horizon - s.ref + s.params.haltGranule) ≤ 0x7FFFFFFF) :
    (burstStep s).fault = none ∧ (burstStep s).haltMode = s.haltMode ∧
    s.burstStart + s.horizon ≤ (burstStep s).ref ∧
    (burstStep s).ref < s.burstStart + s.horizon + s.params.haltGranule ∧
    ((burstStep s).ref - s.ref) % s.params.haltGranule = 0 := by
  obtain ⟨hle, hlt, hmod⟩ := roundup_spec (s.burstStart + s.horizon - s.ref) hg
  rw [burstStep_idle hs hstall hhalt hdecide hopen, haltedAdvance, addClock_room]
  · simp only [burstLeft, reconcileAll_keeps, hs.1, Nat.add_sub_cancel_left, true_and]
    omega
  · simp only [burstLeft, reconcileAll_keeps]
    omega

/-! ## Every burst step without a fault makes progress -/

theorem haltedAdvance_advances {s : State} (hopen : s.ref - s.burstStart < s.horizon)
    (h : (haltedAdvance s).fault = none) : s.ref < (haltedAdvance s).ref := by
  have hleft : 0 < burstLeft s := by
    unfold burstLeft
    omega
  have hround := le_roundup (burstLeft s) s.params.haltGranule
  have href : (haltedAdvance s).ref = s.ref + roundup (burstLeft s) s.params.haltGranule :=
    congrArg State.ref (addClock_unfaulted h).2
  omega

/-- After the check the step goes on unless the check used up the burst (R248). -/
theorem afterCheck_advances {s : State} (hopen : s.ref - s.burstStart < s.horizon)
    (h : (afterCheck s).fault = none) : s.ref < (afterCheck s).ref := by
  unfold afterCheck at h ⊢
  rw [if_neg (by omega)] at h ⊢
  split at h
  · exact cpuStep_advances h
  · exact haltedAdvance_advances hopen h
  · exact haltedAdvance_advances hopen h

theorem payStall_advances {s : State} (hstall : 0 < s.hdma.stall) (h : (payStall s).fault = none) :
    s.ref < (payStall s).ref := by
  obtain ⟨hpaid, hrun⟩ := unlessFaulted_unfaulted h
  have href : (addClock s.hdma.stall s).ref = s.ref + s.hdma.stall := congrArg State.ref (addClock_unfaulted hpaid).2
  rw [payStall, hrun]
  exact lt_of_lt_of_eq (Nat.lt_add_of_pos_right hstall) href.symm

/-- A burst step without a fault, with the burst not used up, moves the clock, or ends a general DMA of free blocks and leaves
the break flag. -/
theorem burstStep_progress {s : State} (hopen : s.ref - s.burstStart < s.horizon) (h : (burstStep s).fault = none) :
    s.ref < (burstStep s).ref ∨
      (s.hdma.mode = .general ∧ (burstStep s).hdma.mode = .none ∧ (burstStep s).breakFlag = s.breakFlag) := by
  by_cases hm : s.hdma.mode = .general
  · rw [burstStep_general hm] at h ⊢
    exact (dmaExec_progress (Nat.le_max_left _ _) hm h).imp_right fun hend => ⟨hm, hend⟩
  · left
    obtain hstall | hstall := Nat.eq_zero_or_pos s.hdma.stall
    · rw [burstStep_check hm hstall] at h ⊢
      obtain ⟨-, hafter⟩ := unlessFaulted_unfaulted h
      rw [hafter] at h ⊢
      have hcheck := irqCheck_onward s
      have hafterRef := (afterCheck_onward (irqCheck s)).ref
      by_cases hopen' : (irqCheck s).ref - (irqCheck s).burstStart < (irqCheck s).horizon
      · exact hcheck.ref.trans_lt (afterCheck_advances hopen' h)
      · rw [hcheck.horizon, hcheck.start] at hopen'
        omega
    · rw [burstStep_stall hm hstall] at h ⊢
      exact payStall_advances hstall h

/-! ## The steps of a burst -/

/-- The commands a CPU step may not issue (R252, R406). -/
theorem cpuRule_refused {i : Instr}
    (h : i = .brkchk ∨ i = .irqchk ∨ i = .horizon ∨ (∃ sub n, i = reconcileOf sub n) ∨ (∃ sub, i = nextevtOf sub) ∨
      (∃ sub, i = subresetOf sub) ∨ isRunfor i ∨ isPoweron i ∨ (∃ k, i = mappersetOf k)) : cpuRule i = none := by
  obtain rfl | rfl | rfl | ⟨sub, n, rfl⟩ | ⟨sub, rfl⟩ | ⟨sub, rfl⟩ | ⟨n, rfl⟩ | ⟨m, b, c, rfl⟩ | ⟨k, rfl⟩ := h
  case inr.inr.inr.inr.inr.inr.inr.inr => cases k <;> rfl
  case inr.inr.inr.inl | inr.inr.inr.inr.inl | inr.inr.inr.inr.inr.inl => cases sub <;> rfl
  all_goals rfl

/-- The commands it may. -/
theorem cpuRule_admitted {i : Instr}
    (h : (∃ a, ReadsBus i a) ∨ (∃ a v, WritesBus i a v) ∨ i = .clkget ∨ (∃ n, i = .clkadd n) ∨ (∃ n, i = .dmaexec n) ∨
      (∃ a, i = .cpusetPc a) ∨ (∃ a, i = .cpusetSp a) ∨ (∃ b, i = .cpusetIme b) ∨ i = .cpusetHaltRun ∨
      i = .cpusetHaltHalt ∨ i = .cpusetHaltStop) : ∃ f, cpuRule i = some f := by
  obtain ⟨a, rfl | rfl⟩ | ⟨a, v, rfl | rfl⟩ | rfl | ⟨n, rfl⟩ | ⟨n, rfl⟩ | ⟨a, rfl⟩ | ⟨a, rfl⟩ | ⟨b, rfl⟩ |
    rfl | rfl | rfl := h
  all_goals exact ⟨_, rfl⟩

/-- Words without a CLKADD operand count no clock. -/
theorem cpuRun_noClocks {next : Nat → List Response → Option Word}
    (hnext : ∀ k r w, next k r = some w → clkaddOf w = 0) (k issued clocks : Nat) (s : State) :
    (cpuRun next k issued clocks s).1 = clocks := by
  induction k generalizing issued clocks s with
  | zero => rfl
  | succ k ih =>
    unfold cpuRun
    split
    · rename_i w _ hw
      rw [ih, hnext _ _ w hw, Nat.add_zero]
    · rfl

theorem cpuStep_listed {s : State} {ws : List Word} {rest : List (List Word)} (h : s.cpuTape = ws :: rest) :
    cpuStep s = cpuEnd (cpuRun (fun k _ => ws[k]?) ws.length 0 0 { s with cpuTape := rest, cpuReplies := [] }) := by
  simp only [cpuStep, h, cpuStepListed]

/-- A run of one word that is a CLKADD, where the clock has room. -/
theorem cpuRun_clkadd {s : State} {n : Count} (hs : s.fault = none) (hroom : s.ref + n.toNat ≤ 0x7FFFFFFF) :
    cpuRun (fun k _ => [encode (.clkadd n)][k]?) 1 0 0 s =
      (n.toNat, { s with response := none, ref := s.ref + n.toNat }) := by
  have hdecode : decode (encode (.clkadd n)) = .ok (.clkadd n) := decodeInvertsEncode _ rfl
  have hissue : cpuIssueWord (encode (.clkadd n)) s = { s with response := none, ref := s.ref + n.toNat } := by
    rw [cpuIssueWord_admitted hdecode rfl, command_ready hs, addClock_room (s := begun s) hroom]
    rfl
  simp only [cpuRun, hs, List.getElem?_cons_zero]
  rw [hissue, clkaddOf, hdecode, Nat.zero_add, hs]

/-- A supplied step of one CLKADD. -/
theorem cpuStep_clkadd {s : State} {n : Count} {rest : List (List Word)} (hs : Ready s)
    (htape : s.cpuTape = [encode (.clkadd n)] :: rest) (hn : 1 ≤ n.toNat) (hroom : s.ref + n.toNat ≤ 0x7FFFFFFF) :
    cpuStep s = { s with cpuTape := rest, cpuReplies := [], response := none, ref := s.ref + n.toNat } := by
  have hrun := cpuRun_clkadd (s := { s with cpuTape := rest, cpuReplies := [] }) hs hroom
  rw [cpuStep_listed htape, List.length_singleton, hrun, cpuEnd, if_neg (by omega)]

/-- Settles O10: a CPU step issues by `cpuRule`, a step of words without clocks ends in its fault, and a stopped CPU advances
as a halted one does. -/
theorem stepsOfABurst : Obligations.StepsOfABurst := by
  refine ⟨?_, ?_, ?_, fun s n rest hs htape hn hroom => cpuStep_clkadd hs htape hn hroom, ?_, ?_⟩
  · intro s w i hs hw hi
    rw [cpuIssueWord_protocol hw (cpuRule_refused hi), raise_ready hs]
  · intro s w i hs hw hi
    obtain ⟨f, hf⟩ := cpuRule_admitted hi
    exact ⟨command f s, exec_cpuRule hf s, by rw [cpuIssueWord_admitted hw hf, collectReply_eq]⟩
  · intro s ws rest hs htape hwords hfault
    have hclocks := cpuRun_noClocks (next := fun k _ => ws[k]?)
      (fun k _ w hw => hwords w (List.mem_of_getElem? hw)) ws.length 0 0 { s with cpuTape := rest, cpuReplies := [] }
    rw [cpuStep_listed htape, cpuEnd, if_pos hclocks, raise_ready hfault]
  · intro s t n hs hm hn hexec hfault
    have hcommand : exec (.dmaexec n) s = .next (command (dmaExec n.toNat) s) := rfl
    obtain rfl : dmaExec n.toNat (begun s) = t := by
      rw [hcommand, command_ready hs] at hexec
      exact Host.Outcome.next.inj hexec
    rw [dmaExec_general (s := begun s) hm, respond_fault, gdmaRun_begun] at hfault
    rw [dmaExec_general (s := begun s) hm, gdmaRun_begun, respond_ready hfault, burstStep_general hm,
      dmaExec_general hm, burstLeft, ← hn]
    exact respond_ready (s := gdmaRun n.toNat s) hfault
  · intro s hs hstall hstop hexit hopen hg hstart hroom
    have hdecide : irqDecide (reconcileAll s) = reconcileAll s := by
      have hmode : (reconcileAll s).haltMode = .stop := by simpa only [reconcileAll_keeps] using hstop
      simp only [irqDecide, hmode, stopCheck, hexit, Bool.false_eq_true, if_false]
    rw [← hstop]
    exact burstStep_idleAdvances hs hstall (by rw [hstop]; exact nofun) hdecide hopen hg hstart hroom

end Sys2Proof.Machine
end

section
/-! SUPPORT. The burst and the segment (R246-R250): the burst's steps and its end, the segment's bursts and its end. -/

namespace Sys2Proof.Machine

open Sys2Proof.Safety

/-! ## The burst's steps -/

/-- A burst of horizon `h` goes on after a step that led to `t` (R246). -/
def BurstGoesOn (h : Nat) (t : State) : Prop := t.fault = none ∧ t.breakFlag = false ∧ t.ref - t.burstStart < h

/-- How a burst leaves the state of its last step: the break flag cleared if no fault stands (R246). -/
def burstEnd (t : State) : State := if t.fault = none then { t with breakFlag := false } else t

theorem burstLoop_goesOn {h k : Nat} {s : State} (hon : BurstGoesOn h (burstStep s)) :
    burstLoop h (k + 1) s = burstLoop h k (burstStep s) := by
  obtain ⟨hfault, hbreak, hopen⟩ := hon
  rw [burstLoop, unlessFaulted_ready hfault]
  generalize burstStep s = t at *
  have ht : { t with breakFlag := false } = t := by rw [← hbreak]
  simp only [ht, hbreak, Bool.false_or, decide_eq_true_eq]
  rw [if_neg (by omega)]

theorem burstLoop_ends {h k : Nat} {s : State} (hend : ¬ BurstGoesOn h (burstStep s)) :
    burstLoop h (k + 1) s = burstEnd (burstStep s) := by
  rw [burstLoop, burstEnd]
  generalize burstStep s = t at *
  cases hfault : t.fault with
  | some f => rw [unlessFaulted_faulted hfault, if_neg nofun]
  | none =>
    rw [unlessFaulted_ready hfault, if_pos rfl]
    dsimp only
    rw [if_pos, hfault]
    by_contra hnot
    simp only [Bool.or_eq_true, decide_eq_true_eq, not_or, Bool.not_eq_true, Nat.not_le] at hnot
    exact hend ⟨hfault, hnot.1, hnot.2⟩

/-- Burst steps taken one after the other keep the burst's start and horizon and run the clocks forward. -/
theorem burstSteps_onward (n : Nat) (s : State) : Onward s (burstStep^[n] s) := by
  induction n with
  | zero => exact Onward.refl s
  | succ n ih =>
    rw [Function.iterate_succ_apply']
    exact ih.trans (burstStep_onward _)

/-- The steps a burst may still take: two for each clock left, as no two in a row leave the clock where it was. -/
def stepsLeft (h : Nat) (s : State) : Nat := 2 * (s.burstStart + h - s.ref) + if s.hdma.mode = .general then 1 else 0

/-- A burst that goes on has fewer steps left. -/
theorem stepsLeft_burstStep {h : Nat} {s : State} (hh : s.horizon = h) (hopen : s.ref - s.burstStart < h)
    (hon : BurstGoesOn h (burstStep s)) : stepsLeft h (burstStep s) < stepsLeft h s := by
  have hstep := burstStep_onward s
  have hstart := hstep.start
  have href := hstep.ref
  obtain ⟨hfault, -, hopen'⟩ := hon
  unfold stepsLeft
  obtain hlt | ⟨hm, hm', -⟩ := burstStep_progress (hh ▸ hopen) hfault
  · split_ifs <;> omega
  · rw [if_pos hm, if_neg (by rw [hm']; exact nofun)]
    omega

/-- With passes for the steps left the loop ends after the first step that ends the burst. -/
theorem burstLoop_runs {h k : Nat} {s : State} (hh : s.horizon = h) (hopen : s.ref - s.burstStart < h)
    (hk : stepsLeft h s ≤ k) :
    ∃ n, (∀ i < n, BurstGoesOn h (burstStep^[i + 1] s)) ∧ ¬ BurstGoesOn h (burstStep^[n + 1] s) ∧
      burstLoop h k s = burstEnd (burstStep^[n + 1] s) := by
  induction k generalizing s with
  | zero =>
    unfold stepsLeft at hk
    omega
  | succ k ih =>
    by_cases hon : BurstGoesOn h (burstStep s)
    · have hless := stepsLeft_burstStep hh hopen hon
      obtain ⟨n, hsteps, hend, hloop⟩ := ih ((burstStep_onward s).horizon.trans hh) hon.2.2 (by omega)
      refine ⟨n + 1, fun i hi => ?_, hend, (burstLoop_goesOn hon).trans hloop⟩
      cases i with
      | zero => exact hon
      | succ i => exact hsteps i (by omega)
    · exact ⟨0, fun i hi => absurd hi (Nat.not_lt_zero i), hon, burstLoop_ends hon⟩

/-! ## The burst -/

/-- The state in which a burst runs its first step (R246, R247). -/
def burstBegin (s : State) : State :=
  { reconcileAll s with
    horizon := min (horizonOf (reconcileAll s)) (s.segTarget - s.ref).toNat, burstStart := s.ref, breakFlag := false }

theorem burst_due {s : State} (hs : s.fault = none) (hdue : overdue (reconcileAll s) = false) :
    burst s = burstLoop (burstBegin s).horizon (2 * (burstBegin s).horizon + 2) (burstBegin s) := by
  have hset := setHorizon_due hdue
  have hfault : (setHorizon s).fault = none := by
    rw [hset]
    simp only [reconcileAll_keeps, hs]
  have hbegin : startBurst (setHorizon s) = burstBegin s := by
    rw [hset]
    simp only [startBurst, burstBegin, segmentLeft, reconcileAll_keeps]
  rw [burst, unlessFaulted_ready hfault]
  dsimp only
  rw [hbegin]

theorem burst_overdue {s : State} (hs : s.fault = none) (hover : overdue (reconcileAll s) = true) :
    burst s = { reconcileAll s with fault := some .nextevt } := by
  rw [burst, setHorizon_overdue hs hover]
  exact unlessFaulted_faulted (s := { reconcileAll s with fault := some .nextevt }) rfl

theorem burstBegin_horizon_pos {s : State} (ht : (s.ref : Int) < s.segTarget) (hdue : overdue (reconcileAll s) = false) :
    1 ≤ (burstBegin s).horizon := by
  have hleast : 1 ≤ horizonOf (reconcileAll s) := by
    refine (le_horizonOf_iff _ 1).2 ⟨by decide, fun sub hsub => ?_⟩
    by_contra hzero
    have hover : overdue (reconcileAll s) = true := (overdue_iff _).2 ⟨sub, hsub, by omega⟩
    rw [hdue] at hover
    contradiction
  exact le_min hleast (by omega)

/-- A burst short of the target, with no subsystem overdue, is its steps: each but the last goes on, the last ends it. -/
theorem burst_runs {s : State} (hs : s.fault = none) (ht : (s.ref : Int) < s.segTarget)
    (hdue : overdue (reconcileAll s) = false) :
    ∃ n, (∀ i < n, BurstGoesOn (burstBegin s).horizon (burstStep^[i + 1] (burstBegin s))) ∧
      ¬ BurstGoesOn (burstBegin s).horizon (burstStep^[n + 1] (burstBegin s)) ∧
      burst s = burstEnd (burstStep^[n + 1] (burstBegin s)) := by
  have hpos := burstBegin_horizon_pos ht hdue
  have href : (burstBegin s).ref = (burstBegin s).burstStart := reconcileAll_ref s
  rw [burst_due hs hdue]
  refine burstLoop_runs rfl (by omega) ?_
  unfold stepsLeft
  split <;> omega

theorem burstEnd_fault (t : State) : (burstEnd t).fault = t.fault := by
  unfold burstEnd
  split <;> rfl

theorem burstEnd_ref (t : State) : (burstEnd t).ref = t.ref := by
  unfold burstEnd
  split <;> rfl

/-- A burst that goes on up to a step without a fault has moved the clock by that step, or goes on after it too. -/
theorem burstStep_last {h : Nat} {s : State} (hh : s.horizon = h) (hopen : s.ref - s.burstStart < h)
    (hbreak : s.breakFlag = false) (hend : ¬ BurstGoesOn h (burstStep s)) (hfault : (burstStep s).fault = none) :
    s.ref < (burstStep s).ref := by
  have hstart := (burstStep_onward s).start
  obtain hlt | ⟨-, -, hkept⟩ := burstStep_progress (hh ▸ hopen) hfault
  · exact hlt
  · by_contra hnot
    exact hend ⟨hfault, hkept.trans hbreak, by omega⟩

/-- Every burst without a fault advances the clock (R246). -/
theorem burst_advances {s : State} (hs : s.fault = none) (ht : (s.ref : Int) < s.segTarget)
    (h : (burst s).fault = none) : s.ref < (burst s).ref := by
  cases hover : overdue (reconcileAll s) with
  | true =>
    have hraised : (burst s).fault = some .nextevt := (congrArg State.fault (burst_overdue hs hover) :)
    rw [hraised] at h
    contradiction
  | false =>
    obtain ⟨n, hsteps, hend, hburst⟩ := burst_runs hs ht hover
    have hpos := burstBegin_horizon_pos ht hover
    have href : (burstBegin s).ref = s.ref := reconcileAll_ref s
    have hstart : (burstBegin s).burstStart = s.ref := rfl
    have honward := burstSteps_onward n (burstBegin s)
    have hbefore : (burstStep^[n] (burstBegin s)).breakFlag = false ∧
        (burstStep^[n] (burstBegin s)).ref - (burstStep^[n] (burstBegin s)).burstStart < (burstBegin s).horizon := by
      cases n with
      | zero => exact ⟨rfl, by rw [Function.iterate_zero_apply]; omega⟩
      | succ n => exact (hsteps n (Nat.lt_succ_self n)).2
    rw [hburst, burstEnd_fault] at h
    rw [hburst, burstEnd_ref]
    rw [Function.iterate_succ_apply'] at hend h ⊢
    have hlast := burstStep_last honward.horizon hbefore.2 hbefore.1 hend h
    have := honward.ref
    omega

/-- What HORIZON's answer says of the burst that starts in the same state (R243, R246). -/
theorem exec_horizon_next {s : State} {h : Nat} (hs : Ready s)
    (hexec : exec .horizon s = .next { current s with horizon := h, response := some (.clocks h) }) :
    overdue (reconcileAll s) = false ∧ horizonOf (reconcileAll s) = h := by
  have hover : overdue (current s) = overdue (reconcileAll s) := by rw [current_eq]; rfl
  have hleast : horizonOf (current s) = horizonOf (reconcileAll s) := by rw [current_eq]; rfl
  rw [← hover, ← hleast]
  cases hdue : overdue (current s) with
  | true =>
    rw [exec_horizon_overdue hs hdue] at hexec
    have hfault : some Fault.nextevt = (current s).fault :=
      (congrArg State.fault (Host.Outcome.next.inj hexec) :)
    rw [current_fault, hs] at hfault
    contradiction
  | false =>
    rw [exec_horizon_due hs hdue] at hexec
    exact ⟨rfl, (congrArg State.horizon (Host.Outcome.next.inj hexec) :)⟩

theorem payStall_room {s : State} (hs : s.fault = none) (hroom : s.ref + s.hdma.stall ≤ 0x7FFFFFFF) :
    payStall s = { s with ref := s.ref + s.hdma.stall, hdma := { s.hdma with stall := 0 } } := by
  rw [payStall, addClock_room hroom]
  exact unlessFaulted_ready (s := { s with ref := s.ref + s.hdma.stall }) hs

/-- Settles O51: the loop has passes for every step the burst can take, so it ends by one of its conditions; the idle steps
are those of `burstStep_stall` and `burstStep_idleAdvances`. -/
theorem burstsAndTheirIdleSteps : Obligations.BurstsAndTheirIdleSteps := by
  refine ⟨?_, ?_, ?_, ?_⟩
  · intro s h H hs ht hexec hH
    obtain ⟨hdue, hleast⟩ := exec_horizon_next hs hexec
    have hhorizon : (burstBegin s).horizon = H := by rw [hH, ← hleast]; rfl
    obtain ⟨n, hsteps, hend, hburst⟩ := burst_runs hs ht hdue
    rw [hhorizon] at hsteps hend
    refine ⟨n, fun i => burstStep^[i] (burstBegin s), burstStep^[n + 1] (burstBegin s), ?_, fun i hi => ?_,
      Function.iterate_succ_apply' _ _ _, ?_, hburst⟩
    · rw [← hhorizon]
      rfl
    · exact ⟨Function.iterate_succ_apply' _ _ _, hsteps i hi⟩
    · by_contra hnot
      push Not at hnot
      exact hend ⟨hnot.1, Bool.eq_false_iff.2 hnot.2.1, hnot.2.2⟩
  · intro s hs hover
    rw [current_eq] at hover
    exact burst_overdue hs ((overdue_iff _).2 hover)
  · intro s hs hm hstall hroom
    rw [burstStep_stall hm hstall, payStall_room hs hroom]
  · intro s hs hstall hhalt hpending hopen hg hstart hroom
    have hdecide : irqDecide (reconcileAll s) = reconcileAll s := by
      have hmode : (reconcileAll s).haltMode = .halt := by simpa only [reconcileAll_keeps] using hhalt
      have hnone : pendingIrqs (reconcileAll s) = 0 := by
        rw [current_eq] at hpending
        simpa only [pendingIrqs, reconcileAll_keeps] using hpending
      simp only [irqDecide, hmode, hnone, if_true]
    rw [← hhalt]
    exact burstStep_idleAdvances hs hstall (by rw [hhalt]; exact nofun) hdecide hopen hg hstart hroom

/-! ## The segment -/

theorem burst_segTarget (s : State) : (burst s).segTarget = s.segTarget :=
  (congrArg State.segTarget (burst_only s)).trans rfl

/-- With a pass for each clock left the loop runs bursts until a fault stands or the target is reached (R246). -/
theorem segmentLoop_runs {k : Nat} {s : State} (hk : s.fault = none → segmentLeft s ≤ k) :
    ∃ n, (∀ i < n, (burst^[i] s).fault = none ∧ ((burst^[i] s).ref : Int) < (burst^[i] s).segTarget) ∧
      ((burst^[n] s).fault ≠ none ∨ (burst^[n] s).segTarget ≤ (burst^[n] s).ref) ∧ segmentLoop k s = burst^[n] s := by
  induction k generalizing s with
  | zero =>
    refine ⟨0, fun i hi => absurd hi (Nat.not_lt_zero i), ?_, rfl⟩
    refine or_iff_not_imp_left.2 fun hs => ?_
    have hleft := hk (not_not.1 hs)
    unfold segmentLeft at hleft
    rw [Function.iterate_zero_apply]
    omega
  | succ k ih =>
    cases hs : s.fault with
    | some f =>
      refine ⟨0, fun i hi => absurd hi (Nat.not_lt_zero i), .inl ?_, unlessFaulted_faulted hs⟩
      rw [Function.iterate_zero_apply, hs]
      exact nofun
    | none =>
      rw [segmentLoop, unlessFaulted_ready hs]
      by_cases ht : (s.ref : Int) < s.segTarget
      · obtain ⟨n, hbursts, hend, hloop⟩ := ih (s := burst s) fun hfault => by
          have hless := burst_advances hs ht hfault
          have hleft := hk hs
          unfold segmentLeft at *
          rw [burst_segTarget]
          omega
        refine ⟨n + 1, fun i hi => ?_, hend, (if_pos ht).trans hloop⟩
        cases i with
        | zero => exact ⟨hs, ht⟩
        | succ i => exact hbursts i (by omega)
      · exact ⟨0, fun i hi => absurd hi (Nat.not_lt_zero i), .inr (Int.not_lt.1 ht), if_neg ht⟩

theorem exec_runfor {s : State} (hs : Ready s) (n : Count) :
    exec (.runfor n) s = .next (runFor n.toNat (begun s)) := by
  have h : exec (.runfor n) s = .next (command (runFor n.toNat) s) := rfl
  rw [h, command_ready hs]

/-- The segment's first state (R246). -/
theorem startSegment_begun (n : Nat) (s : State) :
    startSegment n (begun s) = { begun s with phase := .burst, segTarget := n - s.debt } := rfl

/-- The rebase takes every counter of a settled state to 0 (R250). -/
theorem rebase_settled {s : State} (h : Settled s) :
    s.last.rebase s.ref = { timer := 0, serial := 0, ppu := 0, sound := 0, dma := 0, camera := 0 } := by
  have hsub (sub : Subsystem) : s.last.get sub - s.ref = 0 := by rw [h sub, Nat.sub_self]
  exact (Lasts.mk.injEq ..).mpr ⟨hsub .timer, hsub .serial, hsub .ppu, hsub .sound, hsub .dma, hsub .camera⟩

theorem rebaseClock_settled {s : State} (h : Settled s) : rebaseClock s = { s with
    debt := s.ref - s.segTarget, epoch := s.epoch + s.ref, ref := 0
    last := { timer := 0, serial := 0, ppu := 0, sound := 0, dma := 0, camera := 0 }
    burstStart := 0 } := by
  rw [rebaseClock, rebase_settled h]

/-- The state in which the segment of a RUNFOR ends (R246). -/
def segmentEnd (n : Nat) (s : State) : State := segmentLoop (segmentLeft (startSegment n s)) (startSegment n s)

theorem runFor_eq (n : Nat) (s : State) :
    runFor n s = { rebaseClock (reconcileAll (segmentEnd n s)) with phase := .idle, response := none } := rfl

/-- What the bursts of a segment leave alone. -/
theorem segmentEnd_keeps (n : Nat) (s : State) :
    (segmentEnd n s).params = s.params ∧ (segmentEnd n s).family = s.family ∧ (segmentEnd n s).renderer = s.renderer ∧
    (segmentEnd n s).rom = s.rom ∧ (segmentEnd n s).bootRom = s.bootRom ∧ (segmentEnd n s).bootImage = s.bootImage ∧
    (segmentEnd n s).inputs = s.inputs ∧ (segmentEnd n s).cartRtc = s.cartRtc ∧ (segmentEnd n s).epoch = s.epoch ∧
    (segmentEnd n s).segTarget = n - s.debt := by
  have h := segmentLoop_only (segmentLeft (startSegment n s)) (startSegment n s)
  unfold BurstOnly at h
  unfold segmentEnd
  rw [h]
  exact ⟨rfl, rfl, rfl, rfl, rfl, rfl, rfl, rfl, rfl, rfl⟩

theorem burstLoop_forward (h k : Nat) (s : State) : Forward s (burstLoop h k s) := by
  induction k generalizing s with
  | zero => exact (Onward.refl s).toForward
  | succ k ih =>
    refine (burstStep_onward s).toForward.trans ?_
    by_cases hon : BurstGoesOn h (burstStep s)
    · rw [burstLoop_goesOn hon]
      exact ih _
    · rw [burstLoop_ends hon, burstEnd]
      split
      · exact ⟨le_rfl, fun _ => le_rfl⟩
      · exact (Onward.refl _).toForward

/-- Over a segment the clocks run forward until the rebase (R254). -/
theorem segmentEnd_forward (n : Nat) (s : State) : Forward s (segmentEnd n s) := by
  have hguard {f : State → State} (u : State) (hf : Forward u (f u)) : Forward u (unlessFaulted u f) := by
    unfold unlessFaulted
    split
    · exact hf
    · exact (Onward.refl u).toForward
  have hburst (u : State) : Forward u (burst u) := by
    refine (setHorizon_forward u).trans (hguard _ ?_)
    exact Forward.trans (t := startBurst (setHorizon u)) ⟨le_rfl, fun _ => le_rfl⟩ (burstLoop_forward _ _ _)
  have hloop (k : Nat) (u : State) : Forward u (segmentLoop k u) := by
    induction k generalizing u with
    | zero => exact (Onward.refl u).toForward
    | succ k ih =>
      refine hguard u ?_
      split
      · exact (hburst u).trans (ih _)
      · exact (Onward.refl u).toForward
  exact Forward.trans (t := startSegment n s) ⟨le_rfl, fun _ => le_rfl⟩ (hloop _ _)

theorem segmentEnd_counters {n : Nat} {s : State} (h : CounterBounds s) : CounterBounds (segmentEnd n s) :=
  (segmentLoop_upholds _ (startSegment n s)).counters h

/-- The segment is its bursts, and they end with a fault or the target reached. -/
theorem segmentEnd_runs (n : Nat) (s : State) :
    ∃ k, (∀ i < k, (burst^[i] (startSegment n s)).fault = none ∧
        ((burst^[i] (startSegment n s)).ref : Int) < (burst^[i] (startSegment n s)).segTarget) ∧
      ((segmentEnd n s).fault ≠ none ∨ (segmentEnd n s).segTarget ≤ (segmentEnd n s).ref) ∧
      segmentEnd n s = burst^[k] (startSegment n s) := by
  obtain ⟨k, hbursts, hend, hloop⟩ := segmentLoop_runs (s := startSegment n s) fun _ => le_rfl
  exact ⟨k, hbursts, by rwa [segmentEnd, hloop], hloop⟩

/-- Where the debt covers the budget no burst runs (R246). -/
theorem segmentEnd_paid {n : Nat} {s : State} (h : (n : Int) - s.debt ≤ s.ref) : segmentEnd n s = startSegment n s := by
  have hleft : segmentLeft (startSegment n s) = 0 := by
    show ((n : Int) - s.debt - s.ref).toNat = 0
    omega
  rw [segmentEnd, hleft, segmentLoop]

/-! ## The obligations -/

/-- Settles O54: without a fault the segment's bursts end at the target, and the debt is what they passed it by. -/
theorem runforReachesItsTarget : Obligations.RunforReachesItsTarget := by
  intro s t n hexec hfault
  cases hs : s.fault with
  | some f =>
    have hcommand : exec (.runfor n) s = .next (command (runFor n.toNat) s) := rfl
    rw [hcommand, command_faulted hs] at hexec
    obtain rfl : begun s = t := Host.Outcome.next.inj hexec
    rw [hs] at hfault
    contradiction
  | none =>
    rw [exec_runfor hs] at hexec
    obtain rfl : runFor n.toNat (begun s) = t := Host.Outcome.next.inj hexec
    obtain ⟨k, -, hend, -⟩ := segmentEnd_runs n.toNat (begun s)
    rw [runFor_eq] at hfault ⊢
    simp only [rebaseClock, reconcileAll_keeps] at hfault ⊢
    have := hend.resolve_left (not_not.2 hfault)
    omega

/-- Settles O52: the loop has no pass, and the reconciled state is rebased. -/
theorem runforOnlyPaysTheDebt : Obligations.RunforOnlyPaysTheDebt := by
  intro s n hs hbounds hpaid
  have hsettled := reconcileAll_settled (s := startSegment n.toNat (begun s)) hbounds
  refine ⟨_, exec_runfor hs n, ?_⟩
  rw [runFor_eq, segmentEnd_paid (s := begun s) hpaid, rebaseClock_settled hsettled, ← startSegment_begun]
  have href : (reconcileAll (startSegment n.toNat (begun s))).ref = s.ref := reconcileAll_ref _
  have htarget : (reconcileAll (startSegment n.toNat (begun s))).segTarget = n.toNat - s.debt := by
    simp only [reconcileAll_keeps, startSegment]
  have hepoch : (reconcileAll (startSegment n.toNat (begun s))).epoch = s.epoch := by
    simp only [reconcileAll_keeps, startSegment]
  have hresponse : (reconcileAll (startSegment n.toNat (begun s))).response = none := by
    simp only [reconcileAll_keeps, startSegment]
  generalize reconcileAll (startSegment n.toNat (begun s)) = u at *
  rw [← hresponse, ← htarget, href, hepoch]

/-- Settles O53: the segment's state is that of its bursts, reconciled, so that the rebase takes every counter to 0. -/
theorem runforEndsTheSegment : Obligations.RunforEndsTheSegment := by
  intro s n hs hbounds
  obtain ⟨k, hbursts, hend, htrace⟩ := segmentEnd_runs n.toNat (begun s)
  obtain ⟨hparams, hfamily, hrenderer, hrom, hbootRom, hbootImage, hinputs, hrtc, hepoch, htarget⟩ :=
    segmentEnd_keeps n.toNat (begun s)
  have hforward : s.ref ≤ (segmentEnd n.toNat (begun s)).ref := (segmentEnd_forward n.toNat (begun s)).ref
  have hsettled := reconcileAll_settled (segmentEnd_counters (n := n.toNat) (s := begun s) hbounds)
  refine ⟨_, exec_runfor hs n, ?_⟩
  rw [runFor_eq, rebaseClock_settled hsettled]
  refine ⟨rfl, rfl, fun sub => by cases sub <;> rfl, rfl, rfl, ?segTarget, ?debt, ?epoch, ?params, ?family, ?renderer, ?rom,
    ?bootRom, ?bootImage, ?inputs, ?cartRtc, k, fun i => burst^[i] (startSegment n.toNat (begun s)),
    reconcileAll (segmentEnd n.toNat (begun s)), startSegment_begun _ _,
    fun i hi => ⟨(hbursts i hi).1, (hbursts i hi).2, Function.iterate_succ_apply' _ _ _⟩,
    by rwa [htrace] at hend, by rw [htrace], rfl⟩
  all_goals simp only [reconcileAll_keeps, hparams, hfamily, hrenderer, hrom, hbootRom, hbootImage, hinputs, hrtc, hepoch,
    htarget, begun]
  case debt => push_cast; omega
  case epoch => exact Nat.add_le_add_left hforward _

end Sys2Proof.Machine
end

section
/-! SUPPORT. RECONCILE, NEXTEVT and SUBRESET (R281-R285): the case each command meets, and what each leaves. -/

namespace Sys2Proof.Machine

open Sys2Proof.Safety

/-! ## RECONCILE -/

theorem exec_reconcileOf_command (sub : Subsystem) (n : Count) (s : State) :
    exec (reconcileOf sub n) s = .next (command (reconcile sub n.toNat) s) := by
  cases sub <;> rfl

theorem exec_reconcileOf {s : State} (hs : Ready s) (sub : Subsystem) (n : Count) :
    exec (reconcileOf sub n) s = .next (reconcile sub n.toNat (begun s)) := by
  rw [exec_reconcileOf_command, command_ready hs]

theorem reconcile_behindSound {r : Nat} {s : State} (h : r < s.last.get .sound) : reconcile .sound r s = s :=
  if_pos h

theorem reconcile_behind {sub : Subsystem} {r : Nat} {s : State} (hsub : sub ≠ .sound) (h : r < s.last.get sub) :
    reconcile sub r s = raise .refBackwards s := by
  unfold reconcile
  rw [if_pos h]
  cases sub with
  | sound => contradiction
  | timer | serial | ppu | dma | camera => rfl

theorem reconcile_ahead {sub : Subsystem} {r : Nat} {s : State} (hlast : s.last.get sub ≤ r) (h : s.ref < r) :
    reconcile sub r s = raise .refAhead s := by
  unfold reconcile
  rw [if_neg (Nat.not_lt.2 hlast), if_pos h]

theorem reconcile_due {sub : Subsystem} {r : Nat} {s : State} (hlast : s.last.get sub ≤ r) (h : r ≤ s.ref) :
    reconcile sub r s = setLast sub r (advance sub (r - s.last.get sub) s) := by
  unfold reconcile
  rw [if_neg (Nat.not_lt.2 hlast), if_neg (Nat.not_lt.2 h)]

theorem advance_last (sub : Subsystem) (d : Nat) (s : State) : (advance sub d s).last = s.last :=
  (congrArg State.last (advance_only sub d s)).trans rfl

theorem advance_fault (sub : Subsystem) (d : Nat) (s : State) : (advance sub d s).fault = s.fault :=
  (congrArg State.fault (advance_only sub d s)).trans rfl

theorem advance_response (sub : Subsystem) (d : Nat) (s : State) : (advance sub d s).response = s.response :=
  (congrArg State.response (advance_only sub d s)).trans rfl

/-- Settles O15: the four cases of `reconcile`, in a state without a fault. -/
theorem reconcileAdvancesOneSubsystem : Obligations.ReconcileAdvancesOneSubsystem := by
  intro s sub n hs
  have hfault : (begun s).fault = none := hs
  rw [exec_reconcileOf hs]
  refine ⟨?_, ?_, ?_, ?_⟩
  · rintro hlt rfl
    rw [reconcile_behindSound (s := begun s) hlt]
  · intro hlt hsub
    rw [reconcile_behind (s := begun s) hsub hlt, raise_ready hfault]
  · intro hlast hlt
    rw [reconcile_ahead (s := begun s) hlast hlt, raise_ready hfault]
  · intro hlast hle
    refine ⟨_, rfl, ?_⟩
    rw [reconcile_due (s := begun s) hlast hle, setLast, advance_last]

/-! ## RECONCILE again -/

theorem lasts_set_get (l : Lasts) (sub : Subsystem) : l.set sub (l.get sub) = l := by
  cases sub <;> rfl

theorem lasts_set_set (l : Lasts) (sub : Subsystem) (a b : Nat) : (l.set sub a).set sub b = l.set sub b := by
  cases sub <;> rfl

/-- A subsystem at the reference is left as it is (R285). -/
theorem reconcile_own {sub : Subsystem} {r : Nat} {s : State} (hlast : s.last.get sub = r) (hr : r ≤ s.ref) :
    reconcile sub r s = s := by
  subst hlast
  rw [reconcile_due le_rfl hr, Nat.sub_self, advance, setLast, lasts_set_get]

/-- A RECONCILE that raises nothing, done again, changes nothing (R285). -/
theorem reconcile_idem {sub : Subsystem} {r : Nat} {s : State} (h : (reconcile sub r s).fault = none) :
    reconcile sub r (reconcile sub r s) = reconcile sub r s := by
  by_cases hlast : s.last.get sub ≤ r
  · by_cases hr : r ≤ s.ref
    · rw [reconcile_due hlast hr]
      refine reconcile_own ?_ ?_
      · simp
      · simpa [advance_ref] using hr
    · rw [reconcile_ahead hlast (Nat.lt_of_not_le hr)] at h
      exact absurd h (raise_fault_ne _ _)
  · have hlt := Nat.lt_of_not_le hlast
    by_cases hsub : sub = .sound
    · subst hsub
      rw [reconcile_behindSound hlt, reconcile_behindSound hlt]
    · rw [reconcile_behind hsub hlt] at h
      exact absurd h (raise_fault_ne _ _)

/-- RECONCILE neither reads nor writes the port. -/
theorem reconcile_response (sub : Subsystem) (r : Nat) (s : State) : (reconcile sub r s).response = s.response := by
  have hraise (f : Fault) : (raise f s).response = s.response := (congrArg State.response (raise_frame f s)).trans rfl
  unfold reconcile
  split
  · cases sub with
    | sound => rfl
    | timer | serial | ppu | dma | camera => exact hraise _
  · split
    · exact hraise _
    · exact advance_response _ _ _

theorem begun_of_response {s : State} (h : s.response = none) : begun s = s := by
  rw [begun, ← h]

/-- Settles O18: a subsystem already at the reference is advanced by 0 clocks, and a RECONCILE that completes leaves it
there. -/
theorem reconcilingTwiceIsReconcilingOnce : Obligations.ReconcilingTwiceIsReconcilingOnce := by
  refine ⟨fun _ _ => rfl, ?_, ?_⟩
  · intro s sub n hs hn hr
    rw [exec_reconcileOf hs, reconcile_own (s := begun s) hn.symm hr]
  · intro sub n s t hexec ht
    by_cases hs : Ready s
    · rw [exec_reconcileOf hs, Host.Outcome.next.injEq] at hexec
      subst hexec
      rw [exec_reconcileOf ht, begun_of_response, reconcile_idem ht]
      exact reconcile_response _ _ _
    · obtain ⟨k, hk⟩ := Option.ne_none_iff_exists'.1 hs
      rw [exec_reconcileOf_command, command_faulted hk, Host.Outcome.next.injEq] at hexec
      subst hexec
      exact absurd ht hs

/-! ## NEXTEVT -/

theorem exec_nextevtOf {s : State} (hs : Ready s) (sub : Subsystem) :
    exec (nextevtOf sub) s = .next (nextEvt sub (begun s)) := by
  have h : exec (nextevtOf sub) s = .next (command (nextEvt sub) s) := by cases sub <;> rfl
  rw [h, command_ready hs]

theorem nextEvent_begun (sub : Subsystem) (s : State) : nextEvent sub (begun s) = nextEvent sub s := by
  cases sub <;> rfl

theorem exec_nextevtOf_due {s : State} {sub : Subsystem} (hs : Ready s) (h : 1 ≤ nextEvent sub s) :
    exec (nextevtOf sub) s = .next { s with response := some (.clocks (min (nextEvent sub s) 0x7FFFFFFF)) } := by
  rw [exec_nextevtOf hs, nextEvt, nextEvent_begun, if_neg (Nat.not_lt.2 h)]
  exact congrArg _ (respond_ready (s := begun s) hs)

/-- Settles O16: at least a clock is answered, and none is the fault. -/
theorem nextevtAnswersTheNextEvent : Obligations.NextevtAnswersTheNextEvent := by
  intro s sub hs
  refine ⟨exec_nextevtOf_due hs, fun h => ?_⟩
  rw [exec_nextevtOf hs, nextEvt, nextEvent_begun, h, if_pos Nat.one_pos]
  exact congrArg _ (raise_ready (s := begun s) hs)

/-! ## SUBRESET -/

theorem exec_subresetOf {s : State} (hs : Ready s) (sub : Subsystem) :
    exec (subresetOf sub) s = .next (subReset sub (begun s)) := by
  have h : exec (subresetOf sub) s = .next (command (subReset sub) s) := by cases sub <;> rfl
  rw [h, command_ready hs]

/-- The absent model's core after a reset (log 34). -/
theorem resetCore_absent {supplied : Bool} (h : supplied = false) (c : Collab) (s : State) :
    resetCore supplied c s = idleCore := by
  rw [h, resetCore]
  rfl

theorem subReset_timer (s : State) : subReset .timer s = { s with
    last := { s.last with timer := s.ref }, timer := (resetTimer s).timer, draws := (resetTimer s).draws } := by
  simp only [subReset, resetSub, resetTimer, drawAddr, drawByte, setLast, Lasts.set]

theorem subReset_dma (s : State) : subReset .dma s = { s with
    last := { s.last with dma := s.ref }, odma := (resetDma s).odma, hdma := (resetDma s).hdma
    draws := (resetDma s).draws } := by
  simp only [subReset, resetSub, resetDma, drawAddr, drawByte, setLast, Lasts.set]

/-- Settles O17: each reset writes its subsystem's fields and the draw counter, and the counter follows. -/
theorem subresetResetsOneSubsystem : Obligations.SubresetResetsOneSubsystem := by
  intro s hs
  refine ⟨⟨_, exec_subresetOf hs .timer, ?timer⟩, ⟨_, exec_subresetOf hs .dma, ?dma⟩,
    ⟨_, exec_subresetOf hs .serial, rfl, fun h => resetCore_absent h _ _⟩,
    ⟨_, exec_subresetOf hs .ppu, rfl, fun h => if_neg (by simp [h])⟩,
    ⟨_, exec_subresetOf hs .sound, rfl, fun h => resetCore_absent h _ _⟩,
    ⟨_, exec_subresetOf hs .camera, rfl, fun h => resetCore_absent h _ _⟩⟩
  case timer =>
    rw [subReset_timer]
    exact ⟨rfl, rfl, rfl⟩
  case dma =>
    rw [subReset_dma]
    exact ⟨rfl, rfl, rfl, rfl, rfl, rfl, rfl, rfl, rfl, rfl⟩

end Sys2Proof.Machine
end

section
/-! SUPPORT. The PPU's clock and the HBlank block (R365, R432-R436): which clock enters mode 0, what it draws and copies, and
how reference clocks make PPU clocks. -/

namespace Sys2Proof.Machine

open Sys2Proof.Safety

/-! ## The HBlank block -/

theorem onHblank_sameLine {s : State} {ly : Byte} (hm : s.hdma.mode = .hblank) (hly : s.hdma.lastLy = some ly) :
    onHblank ly s = s := by
  unfold onHblank
  rw [hm]
  exact if_pos hly

theorem onHblank_newLine {s : State} {ly : Byte} (hm : s.hdma.mode = .hblank) (hly : s.hdma.lastLy ≠ some ly) :
    onHblank ly s = finishIfDone { copyBlock s with hdma := { (copyBlock s).hdma with
      lastLy := some ly, stall := (copyBlock s).hdma.stall + gdmaBlockClocks s } } := by
  unfold onHblank
  rw [hm]
  exact if_neg hly

theorem finishIfDone_hdma (s : State) : (finishIfDone s).hdma = { s.hdma with
    mode := if s.hdma.remaining = 0 then .none else s.hdma.mode } := by
  unfold finishIfDone
  split <;> rfl

theorem finishIfDone_vram (s : State) : (finishIfDone s).vram = s.vram := by
  unfold finishIfDone
  split <;> rfl

/-- The block of a new line counts its bytes, notes the line, adds the stall, and ends the transfer if it is the last (R365,
R369). -/
theorem onHblank_hdma {s : State} {ly : Byte} (hm : s.hdma.mode = .hblank) (hly : s.hdma.lastLy ≠ some ly) :
    (onHblank ly s).hdma = { (copyBlock s).hdma with
      mode := if s.hdma.remaining - 16 = 0 then .none else .hblank
      lastLy := some ly, stall := s.hdma.stall + gdmaBlockClocks s } := by
  rw [onHblank_newLine hm hly, finishIfDone_hdma, copyBlock_hdma, hm]

theorem onHblank_vram {s : State} {ly : Byte} (hm : s.hdma.mode = .hblank) (hly : s.hdma.lastLy ≠ some ly) :
    (onHblank ly s).vram = (copyBlock s).vram := by
  rw [onHblank_newLine hm hly, finishIfDone_vram]

/-- A line's block is copied once (R365). -/
theorem onHblank_again {s : State} {ly : Byte} (hm : s.hdma.mode = .hblank) (hly : s.hdma.lastLy ≠ some ly) :
    onHblank ly (onHblank ly s) = onHblank ly s := by
  have hhdma := onHblank_hdma hm hly
  by_cases hlast : s.hdma.remaining - 16 = 0
  · refine onHblank_idle ?_ ly
    rw [hhdma, if_pos hlast]
    exact nofun
  · refine onHblank_sameLine ?_ ?_ <;> rw [hhdma]
    exact if_neg hlast

/-! ## One PPU clock -/

/-- The PPU's part of a clock whose model steps by `e`: its own fields and the IF bits it sets. -/
def ppuStepped (s : State) (e : PpuStep) : State :=
  ppuIrqs e (waitEnds (ppuWait s)) { s with ppu := ppuAged s e (waitEnds (ppuWait s)) }

/-- Line `ly` drawn by the state's renderer (R432, R433). -/
def drawLine (ly : Byte) (s : State) : State :=
  { s with ppu := { s.ppu with own := { s.ppu.own with
      core := Config.ppuDraw s.renderer ly s.ppu.own.core s.vram.read s.oam.read } } }

/-- A PPU clock enters mode 0 where its model does, with the screen on, and while HBlank DMA runs only where `Next_PPU` runs
out (R287, R432, R435). -/
theorem entersHblank_iff (s : State) (e : PpuStep) (ended : Bool) :
    entersHblank s.ppu.view (ppuAged s e ended).view = true ↔
      s.ppu.view.lcdOn = true ∧ s.ppu.view.mode ≠ .m0 ∧ e.mode = .m0 ∧ (s.hdma.mode ≠ .hblank ∨ ended = true) := by
  cases ended with
  | true => simp [entersHblank, ppuAged, ppuMode, mayEnterHblank, and_assoc]
  | false =>
    by_cases hm : s.hdma.mode = .hblank
    · simp [not_entersHblank_early hm, hm]
    · simp [entersHblank, ppuAged, ppuMode, mayEnterHblank, hm, and_assoc]

theorem ppuStepped_ppu (s : State) (e : PpuStep) : (ppuStepped s e).ppu = ppuAged s e (waitEnds (ppuWait s)) :=
  (congrArg State.ppu (ppuIrqs_frame e _ _)).trans rfl

theorem ppuStepped_frame (s : State) (e : PpuStep) :
    ppuStepped s e = { s with ppu := (ppuStepped s e).ppu, ifReg := (ppuStepped s e).ifReg } := by
  have h := ppuIrqs_frame e (waitEnds (ppuWait s)) { s with ppu := ppuAged s e (waitEnds (ppuWait s)) }
  rw [ppuStepped, h]

/-- IF after a PPU clock whose model steps by `e` (R287, R471). -/
def ppuIf (e : PpuStep) (ended : Bool) (irqs : Byte) : Byte :=
  if ended then irqs ||| (if e.vblank then 0x01 else 0x00) ||| (if e.stat then 0x02 else 0x00) else irqs

theorem ppuIrqs_eq (e : PpuStep) (ended : Bool) (s : State) :
    ppuIrqs e ended s = { s with ifReg := ppuIf e ended s.ifReg } := by
  have hif : (ppuIrqs e ended s).ifReg = ppuIf e ended s.ifReg := by
    unfold ppuIrqs ppuIf
    cases ended with
    | false => rfl
    | true => cases e.vblank <;> cases e.stat <;> simp <;> rfl
  rw [ppuIrqs_frame, hif]

/-- A PPU clock steps the model; where that enters mode 0 it draws the line and calls `on_hblank` (R432). -/
theorem ppuClock_eq {s : State} {e : PpuStep}
    (he : e = Config.ppuStep (collabContext s) s.ppu.view s.ppu.own.core s.vram.read s.oam.read) :
    ppuClock s = if entersHblank s.ppu.view (ppuAged s e (waitEnds (ppuWait s))).view = true
      then onHblank e.ly (drawLine e.ly (ppuStepped s e)) else ppuStepped s e := by
  have hview : (ppuStepped s e).ppu.view = (ppuAged s e (waitEnds (ppuWait s))).view := by rw [ppuStepped_ppu]
  have hclock : ppuClock s = if entersHblank s.ppu.view (ppuStepped s e).ppu.view = true
      then enterHblank (ppuStepped s e).ppu.view.ly (ppuStepped s e) else ppuStepped s e := by rw [he]; rfl
  rw [hclock, hview]
  rfl

/-- What a line drawn by the stepped PPU holds is drawn from the memory before the clock. -/
theorem drawLine_ppuStepped_core (ly : Byte) (s : State) (e : PpuStep) :
    (drawLine ly (ppuStepped s e)).ppu.own.core = Config.ppuDraw s.renderer ly e.core s.vram.read s.oam.read := by
  have hcore : (ppuStepped s e).ppu.own.core = e.core := by
    rw [ppuStepped_ppu]
    rfl
  rw [drawLine, hcore, ppuStepped_frame s e]

theorem drawLine_ppuStepped_frame (ly : Byte) (s : State) (e : PpuStep) :
    drawLine ly (ppuStepped s e) =
      { s with ppu := (drawLine ly (ppuStepped s e)).ppu, ifReg := (ppuStepped s e).ifReg } := by
  have h := ppuStepped_frame s e
  generalize ppuStepped s e = t at h
  unfold drawLine
  rw [h]

theorem ppuStepped_ifReg (s : State) (e : PpuStep) : (ppuStepped s e).ifReg =
    if ppuWait s = some 1
      then s.ifReg ||| (if e.vblank then 0x01 else 0x00) ||| (if e.stat then 0x02 else 0x00) else s.ifReg := by
  rw [ppuStepped, ppuIrqs_eq]
  simp only [ppuIf, waitEnds_iff]

/-- The mode the model gives, but for an entry to mode 0 the horizon law forbids (R287). -/
theorem ppuStepped_mode (s : State) (e : PpuStep) : (ppuStepped s e).ppu.view.mode =
    if s.ppu.view.lcdOn = true ∧ e.mode = .m0 ∧ s.hdma.mode = .hblank ∧ ppuWait s ≠ some 1
      then s.ppu.view.mode else e.mode := by
  rw [ppuStepped_ppu]
  refine if_congr ?_ rfl rfl
  simp only [mayEnterHblank, ← waitEnds_iff, Bool.and_eq_true, beq_iff_eq, Bool.not_eq_true', Bool.or_eq_false_iff,
    bne_eq_false_iff_eq, ne_eq, Bool.not_eq_true]
  tauto

/-! ## Reference clocks and PPU clocks -/

theorem onHblank_ppu (ly : Byte) (s : State) : (onHblank ly s).ppu = s.ppu :=
  (congrArg State.ppu (onHblank_frame ly s)).trans rfl

theorem ppuClock_halfClock (s : State) : (ppuClock s).ppu.halfClock = s.ppu.halfClock := by
  have hstepped (e : PpuStep) : (ppuStepped s e).ppu.halfClock = s.ppu.halfClock := by
    rw [ppuStepped_ppu]
    rfl
  rw [ppuClock_eq rfl]
  split
  · rw [onHblank_ppu]
    exact hstepped _
  · exact hstepped _

theorem ppuClock_params (s : State) : (ppuClock s).params = s.params :=
  (congrArg State.params (ppuClock_frame s)).trans rfl

theorem ppuClock_doubleSpeed (s : State) : (ppuClock s).doubleSpeed = s.doubleSpeed :=
  (congrArg State.doubleSpeed (ppuClock_frame s)).trans rfl

/-- The state with a whole PPU clock due. -/
def wholeClock (s : State) : State := { s with ppu := { s.ppu with halfClock := false } }

theorem wholeClock_self {s : State} (h : s.ppu.halfClock = false) : wholeClock s = s := by
  rw [wholeClock, ← h]

/-- In single speed a reference clock is a PPU clock (R436). -/
theorem tickPpu_single {s : State} (hp : s.params.hasPpu = true) (hd : s.doubleSpeed = false) :
    tickPpu s = ppuClock (wholeClock s) := by
  rw [tickPpu, if_pos hp, if_neg (by simp [hd])]
  rfl

/-- In double speed the first reference clock of a PPU clock only counts (R436). -/
theorem tickPpu_firstHalf {s : State} (hp : s.params.hasPpu = true) (hd : s.doubleSpeed = true)
    (hh : s.ppu.halfClock = false) : tickPpu s = { s with ppu := { s.ppu with halfClock := true } } := by
  rw [tickPpu, if_pos hp, if_pos (by simp [hd, hh])]

theorem tickPpu_secondHalf {s : State} (hp : s.params.hasPpu = true) (hh : s.ppu.halfClock = false) :
    tickPpu { s with ppu := { s.ppu with halfClock := true } } = ppuClock s := by
  rw [tickPpu, if_pos (by exact hp), if_neg (by simp)]
  exact congrArg ppuClock (wholeClock_self hh)

theorem natRepeat_succ' {α : Type} (f : α → α) (n : Nat) (a : α) : Nat.repeat f (n + 1) a = Nat.repeat f n (f a) := by
  induction n with
  | zero => rfl
  | succ n ih => exact congrArg f ih

theorem advancePpu_single (d : Nat) {s : State} (hp : s.params.hasPpu = true) (hd : s.doubleSpeed = false)
    (hh : s.ppu.halfClock = false) : advance .ppu d s = Nat.repeat ppuClock d s := by
  induction d generalizing s with
  | zero => rfl
  | succ d ih =>
    rw [advance, tickSub, tickPpu_single hp hd, wholeClock_self hh, natRepeat_succ', ih]
    · rwa [ppuClock_params]
    · rwa [ppuClock_doubleSpeed]
    · rwa [ppuClock_halfClock]

theorem advancePpu_double (d : Nat) {s : State} (hp : s.params.hasPpu = true) (hd : s.doubleSpeed = true)
    (hh : s.ppu.halfClock = false) : advance .ppu (2 * d) s = Nat.repeat ppuClock d s := by
  induction d generalizing s with
  | zero => rfl
  | succ d ih =>
    rw [Nat.mul_succ, advance, advance, tickSub, tickSub, tickPpu_firstHalf hp hd hh, tickPpu_secondHalf hp hh,
      natRepeat_succ', ih]
    · rwa [ppuClock_params]
    · rwa [ppuClock_doubleSpeed]
    · rwa [ppuClock_halfClock]

theorem tickPpu_absent {s : State} (hp : s.params.hasPpu = false) : tickPpu s = s := if_neg (by simp [hp])

theorem advancePpu_absent {s : State} (hp : s.params.hasPpu = false) (d : Nat) : advance .ppu d s = s := by
  induction d with
  | zero => rfl
  | succ d ih => rwa [advance, tickSub, tickPpu_absent hp]

/-! ## The obligation -/

/-- Settles O39: a PPU clock steps the model and, where that enters mode 0, draws the line and copies its block. -/
theorem ppuClockAndTheHblankBlock : Obligations.PpuClockAndTheHblankBlock := by
  refine ⟨fun s ly hm hly => ?block, fun s ly hm => onHblank_idle hm ly, fun s e he => ?clock,
    fun s d hp hd hh => ⟨advancePpu_double d hp hd hh, tickPpu_firstHalf hp hd hh, tickPpu_secondHalf hp hh⟩,
    fun s d hp hd => ⟨advancePpu_single d hp hd rfl, tickPpu_single hp hd⟩, fun s hp => ?next,
    fun s d hp => ⟨advancePpu_absent hp d, if_neg (by simp [hp])⟩⟩
  case block =>
    have hhdma := onHblank_hdma hm hly
    refine ⟨onHblank_vram hm hly, ?_, ?_, ?_, fun hlast => ?_, fun hmore => ?_, onHblank_again hm hly⟩ <;> rw [hhdma]
    · rw [copyBlock_hdma]
    · exact if_pos (by omega)
    · exact if_neg (by omega)
  case clock =>
    have henters := entersHblank_iff s e (waitEnds (ppuWait s))
    have hclock := ppuClock_eq he
    have hppu := ppuStepped_ppu s e
    rw [waitEnds_iff] at henters
    by_cases h : entersHblank s.ppu.view (ppuAged s e (waitEnds (ppuWait s))).view = true
    · rw [if_pos h] at hclock
      obtain ⟨hlcd, hold, hnew, hmay⟩ := henters.1 h
      refine ⟨_, drawLine_ppuStepped_frame e.ly s e, ppuStepped_ifReg s e, (congrArg (fun p : Ppu => p.view.ly) hppu :),
        (congrArg (fun p : Ppu => p.view.lcdOn) hppu :), fun _ _ _ _ => ⟨(ppuStepped_mode s e).trans ?_,
          drawLine_ppuStepped_core e.ly s e, hclock⟩, fun hnot => ?_⟩
      · rw [if_neg (by tauto), hnew]
      · have hon : s.ppu.view.lcdOn ≠ false := by simp [hlcd]
        tauto
    · rw [if_neg h] at hclock
      exact ⟨_, ppuStepped_frame s e, ppuStepped_ifReg s e, (congrArg (fun p : Ppu => p.view.ly) hppu :),
        (congrArg (fun p : Ppu => p.view.lcdOn) hppu :),
        fun hlcd hold hnew hmay => absurd (henters.2 ⟨hlcd, hold, hnew, hmay⟩) h,
        fun _ => ⟨(congrArg (fun p : Ppu => p.own.core) hppu :), hclock, ppuStepped_mode s e⟩⟩
  case next =>
    rw [nextEvent, nextPpu, if_pos hp]
    cases ppuWait s with
    | none => rfl
    | some n => cases s.doubleSpeed <;> cases s.ppu.halfClock <;> rfl

end Sys2Proof.Machine
end

section
/-! SUPPORT. What each subsystem may write by advancing (R289, R472): its own fields, its outputs, and IF bits that are only
ever set. -/

namespace Sys2Proof.Machine

open Sys2Proof.Safety

/-- IF after a subsystem may have set one bit. -/
def MaySet (bit before after : Byte) : Prop := after = before ∨ after = before ||| bit

/-- What a subsystem may write by advancing from `s` to `t` (R289, R472). -/
def AdvanceWrites (sub : Subsystem) (s t : State) : Prop :=
  match sub with
  | .timer => t = { s with timer := t.timer, ifReg := t.ifReg } ∧ t.timer.tma = s.timer.tma ∧
      t.timer.tac = s.timer.tac ∧ MaySet 0x04 s.ifReg t.ifReg
  | .dma => t = { s with odma := t.odma, oam := t.oam, draws := t.draws }
  | .ppu => t = { s with ppu := t.ppu, ifReg := t.ifReg, vram := t.vram, hdma := t.hdma, draws := t.draws } ∧
      ∃ b : Byte, b &&& 0xFC = 0 ∧ t.ifReg = s.ifReg ||| b
  | .serial => t = { s with serial := t.serial, ifReg := t.ifReg, draws := t.draws, anomalies := t.anomalies } ∧
      MaySet 0x08 s.ifReg t.ifReg
  | .sound => t = { s with sound := t.sound }
  | .camera => t = { s with camera := t.camera, eram := t.eram, anomalies := t.anomalies }

theorem MaySet.trans {bit a b c : Byte} (h1 : MaySet bit a b) (h2 : MaySet bit b c) : MaySet bit a c := by
  obtain rfl | rfl := h1
  · exact h2
  · obtain rfl | rfl := h2
    · exact .inr rfl
    · exact .inr (by rw [BitVec.or_assoc, BitVec.or_self])

theorem AdvanceWrites.refl (sub : Subsystem) (s : State) : AdvanceWrites sub s s := by
  cases sub with
  | timer => exact ⟨rfl, rfl, rfl, .inl rfl⟩
  | ppu => exact ⟨rfl, 0, rfl, (BitVec.or_zero).symm⟩
  | serial => exact ⟨rfl, .inl rfl⟩
  | dma | sound | camera => rfl

theorem AdvanceWrites.trans {sub : Subsystem} {s t u : State} (h1 : AdvanceWrites sub s t)
    (h2 : AdvanceWrites sub t u) : AdvanceWrites sub s u := by
  cases sub with
  | timer =>
    obtain ⟨hf1, htma1, htac1, hirq1⟩ := h1
    obtain ⟨hf2, htma2, htac2, hirq2⟩ := h2
    refine ⟨?_, htma2.trans htma1, htac2.trans htac1, hirq1.trans hirq2⟩
    rw [hf2, hf1]
  | ppu =>
    obtain ⟨hf1, b1, hb1, hirq1⟩ := h1
    obtain ⟨hf2, b2, hb2, hirq2⟩ := h2
    refine ⟨?_, b1 ||| b2, ?_, by rw [hirq2, hirq1, BitVec.or_assoc]⟩
    · rw [hf2, hf1]
    · rw [BitVec.and_comm, BitVec.and_or_distrib_left, BitVec.and_comm, hb1, BitVec.and_comm, hb2]
      rfl
  | serial =>
    obtain ⟨hf1, hirq1⟩ := h1
    obtain ⟨hf2, hirq2⟩ := h2
    refine ⟨?_, hirq1.trans hirq2⟩
    rw [hf2, hf1]
  | dma | sound | camera =>
    dsimp only [AdvanceWrites] at h1 h2 ⊢
    rw [h2, h1]

/-- The timer sets IF[2] where its interrupt countdown ends (R313). -/
theorem tickTimer_ifReg (s : State) : MaySet 0x04 s.ifReg (tickTimer s).ifReg := by
  unfold tickTimer
  split
  · exact .inr rfl
  · exact .inl rfl

/-- Serial sets IF[3] where a transfer completes (R443). -/
theorem serialTransition_ifReg (s : State) : MaySet 0x08 s.ifReg (serialTransition s).ifReg := by
  unfold serialTransition
  split
  · exact .inr (congrArg (fun u : State => u.ifReg ||| 0x08) (serialIncoming_frame s) :)
  · exact .inl rfl

theorem tickSerial_ifReg (s : State) : MaySet 0x08 s.ifReg (tickSerial s).ifReg := by
  unfold tickSerial
  dsimp only
  split
  · split
    · exact serialTransition_ifReg _
    · exact .inl rfl
  · exact .inl rfl

/-- A PPU clock sets IF[0] and IF[1] at most (R289). -/
theorem ppuClock_ifReg (s : State) : ∃ b : Byte, b &&& 0xFC = 0 ∧ (ppuClock s).ifReg = s.ifReg ||| b := by
  have hclock (e : PpuStep) (t : State) (ht : t.ifReg = (ppuStepped s e).ifReg) :
      ∃ b : Byte, b &&& 0xFC = 0 ∧ t.ifReg = s.ifReg ||| b := by
    rw [ht, ppuStepped_ifReg]
    split
    · refine ⟨(if e.vblank then 0x01 else 0x00) ||| (if e.stat then 0x02 else 0x00), ?_, BitVec.or_assoc ..⟩
      cases e.vblank <;> cases e.stat <;> decide
    · exact ⟨0, rfl, BitVec.or_zero.symm⟩
  rw [ppuClock_eq rfl]
  split
  · exact hclock _ _ ((congrArg State.ifReg (onHblank_frame _ _)).trans rfl)
  · exact hclock _ _ rfl

theorem tickPpu_ifReg (s : State) : ∃ b : Byte, b &&& 0xFC = 0 ∧ (tickPpu s).ifReg = s.ifReg ||| b := by
  unfold tickPpu
  split
  · split
    · exact ⟨0, rfl, BitVec.or_zero.symm⟩
    · exact ppuClock_ifReg { s with ppu := { s.ppu with halfClock := false } }
  · exact ⟨0, rfl, BitVec.or_zero.symm⟩

theorem tickSub_writes (sub : Subsystem) (s : State) : AdvanceWrites sub s (tickSub sub s) := by
  obtain ⟨htma, htac, -⟩ := tickSub_registers sub s
  cases sub with
  | timer => exact ⟨tickTimer_frame s, htma, htac, tickTimer_ifReg s⟩
  | serial => exact ⟨tickSerial_frame s, tickSerial_ifReg s⟩
  | ppu => exact ⟨tickPpu_frame s, tickPpu_ifReg s⟩
  | sound => exact tickSound_frame s
  | dma => exact tickOdma_frame s
  | camera => exact tickCamera_frame s

theorem advance_writes (sub : Subsystem) (d : Nat) (s : State) : AdvanceWrites sub s (advance sub d s) := by
  induction d generalizing s with
  | zero => exact .refl sub s
  | succ d ih => exact (tickSub_writes sub s).trans (ih _)

/-- Settles O21: one clock writes no more, and what it may write composes. -/
theorem advancingWritesOnlyItsOutputs : Obligations.AdvancingWritesOnlyItsOutputs := fun d s =>
  ⟨⟨_, rfl, advance_writes .timer d s⟩, ⟨_, rfl, advance_writes .dma d s⟩, ⟨_, rfl, advance_writes .ppu d s⟩,
    ⟨_, rfl, advance_writes .serial d s⟩, ⟨_, rfl, advance_writes .sound d s⟩, ⟨_, rfl, advance_writes .camera d s⟩⟩

end Sys2Proof.Machine
end

section
/-! SUPPORT. A clock of the serial collaborator and of the camera (R443, R444, R446, R490): the transfer that completes, the
capture and its copy into external RAM. -/

namespace Sys2Proof.Machine

open Sys2Proof.Safety

/-! ## Serial -/

/-- The state in which a serial clock has stepped the core and the wait. -/
def serialStepped (s : State) : State :=
  { s with serial := {
      core := Config.collabTick .serial (collabContext s) s.serial.core, wait := s.serial.wait.map (fun n => n - 1) } }

theorem tickSerial_supplied {s : State} (hp : s.params.hasSerial = true) :
    tickSerial s = if s.serial.wait = some 1 then serialTransition (serialStepped s) else serialStepped s := by
  rw [tickSerial, if_pos hp]
  simp only [waitEnds_iff, waitLess_eq]
  rfl

theorem tickSerial_absent {s : State} (hp : ¬ s.params.hasSerial = true) : tickSerial s = s := if_neg hp

theorem serialTransition_completes {s : State} (h : serialDone s = true) : serialTransition s =
    raiseIrq 3 { (serialIncoming s).2 with
      serial := Config.collabEvent .serial (Config.serialReceive s.serial.core (serialIncoming s).1) } := if_pos h

theorem serialTransition_goesOn {s : State} (h : ¬ serialDone s = true) :
    serialTransition s = { s with serial := Config.collabEvent .serial s.serial.core } := if_neg h

/-- On the external clock a transfer completes with a partner only (R443, R444). -/
theorem serialDone_iff (s : State) : serialDone s = true ↔ Config.serialCompletes s.serial.core = true ∧
    (s.params.serialPartner = true ∨ Config.serialExternalClock s.serial.core = false) := by
  simp [serialDone]

theorem serialIncoming_alone {s : State} (h : s.params.serialPartner = false) :
    serialIncoming s = (0xFF, logAnomaly .resourceSerial none s) := if_neg (by simp [h])

theorem serialIncoming_partner {s : State} (h : s.params.serialPartner = true) : serialIncoming s = drawByte s := if_pos h

/-! ## Camera -/

/-- The state in which a camera clock has stepped the core and the wait. -/
def cameraStepped (s : State) : State :=
  { s with camera := { s.camera with own := {
      core := Config.collabTick .camera (collabContext s) s.camera.own.core
      wait := s.camera.own.wait.map (fun n => n - 1) } } }

theorem tickCamera_supplied {s : State} (hp : s.params.hasCamera = true) :
    tickCamera s = if s.camera.own.wait = some 1 then cameraTransition (cameraStepped s) else cameraStepped s := by
  rw [tickCamera, if_pos hp]
  simp only [waitEnds_iff, waitLess_eq]
  rfl

theorem tickCamera_absent {s : State} (hp : ¬ s.params.hasCamera = true) : tickCamera s = s := if_neg hp

/-- A frame leaves the bytes of external RAM outside its place, and those the cartridge does not have (R446, R456). -/
theorem copyFrame_read_outside {l : List Byte} {i j : Nat} {s : State}
    (h : j < i ∨ i + l.length ≤ j ∨ s.params.eramBanks * 0x2000 ≤ j) :
    (copyFrame l i s).eram.read j = s.eram.read j := by
  induction l generalizing i s with
  | nil => rfl
  | cons v l ih =>
    rw [List.length_cons] at h
    unfold copyFrame
    split
    · rw [ih (by dsimp only; omega)]
      exact mem_read_write_other _ _ (by omega)
    · exact ih (by omega)

/-- A byte of a frame reads back where the cartridge has external RAM for it (R446, R456). -/
theorem copyFrame_read_inside {l : List Byte} {i k : Nat} {b : Byte} {s : State} (hwf : s.eram.wf = true)
    (hb : l[k]? = some b) (hroom : i + k < s.params.eramBanks * 0x2000) : (copyFrame l i s).eram.read (i + k) = b := by
  induction l generalizing i k s with
  | nil => simp at hb
  | cons v l ih =>
    have hi : i < s.params.eramBanks * 0x2000 := by omega
    unfold copyFrame
    rw [if_pos hi]
    cases k with
    | zero =>
      rw [copyFrame_read_outside (by omega)]
      simpa [mem_read_write_same hwf] using hb
    | succ k =>
      rw [← Nat.add_assoc, Nat.add_right_comm]
      exact ih (mem_wf_write hwf _ _) (by simpa using hb) (by dsimp only; omega)

/-- The log after a capture: an unsupported filter once in a run, an absent device at each capture (R490, R491). -/
def captureLog (s : State) : List Anomaly :=
  s.anomalies ++
  (if Config.cameraFilterUnsupported s.camera.own.core &&
      !(s.anomalies.drop s.runStart).any (fun a => a.kind == .unsupportedCameraFilter)
    then [{ kind := .unsupportedCameraFilter, access := none, pc := s.cpuPc, romBank := romCurr s }] else []) ++
  (if s.params.cameraDevice then []
    else [{ kind := .resourceCamera, access := none, pc := s.cpuPc, romBank := romCurr s }])

/-- An anomaly logged once is appended where the run has none of its kind (R490). -/
theorem logOnce_eq (k : AnomalyKind) (s : State) : logOnce k s = { s with
    anomalies := s.anomalies ++ (if !(s.anomalies.drop s.runStart).any (fun a => a.kind == k)
      then [{ kind := k, access := none, pc := s.cpuPc, romBank := romCurr s }] else []) } := by
  unfold logOnce runLog
  cases (s.anomalies.drop s.runStart).any (fun a => a.kind == k) with
  | true => simp
  | false => rfl

/-- The frame of a capture (R446). -/
def capturedFrame (s : State) : List Byte := Config.cameraFrame s.params.cameraDevice s.camera.own.core

/-- The state in which a capture has taken the frame and logged. -/
def frameTaken (s : State) : State :=
  { s with camera := { s.camera with frame := capturedFrame s }, anomalies := captureLog s }

/-- A capture takes the frame, logs, and copies the frame (R446). -/
theorem cameraCapture_eq (s : State) :
    cameraCapture s = copyFrame (capturedFrame s) (Config.cameraTarget s.camera.own.core) (frameTaken s) := by
  have hbank (l : List Anomaly) : romCurr { s with anomalies := l } = romCurr s := rfl
  unfold cameraCapture frameTaken captureLog capturedFrame
  dsimp only
  congr 1
  rw [logOnce_eq]
  cases Config.cameraFilterUnsupported s.camera.own.core <;> cases s.params.cameraDevice <;>
    simp [logAnomaly, hbank]

theorem cameraTransition_captures {s : State} (h : Config.cameraCaptures s.camera.own.core = true) :
    cameraTransition s = { s with
      camera := { own := Config.collabEvent .camera s.camera.own.core, frame := capturedFrame s }
      eram := (cameraCapture s).eram, anomalies := captureLog s } := by
  have hframe := copyFrame_frame (capturedFrame s) (Config.cameraTarget s.camera.own.core) (frameTaken s)
  rw [← cameraCapture_eq] at hframe
  rw [cameraTransition, if_pos h]
  generalize cameraCapture s = t at hframe
  rw [hframe]
  rfl

theorem cameraTransition_quiet {s : State} (h : ¬ Config.cameraCaptures s.camera.own.core = true) :
    cameraTransition s = { s with camera := { s.camera with own := Config.collabEvent .camera s.camera.own.core } } := by
  rw [cameraTransition, if_neg h]

/-! ## The obligation -/

/-- Settles O49: a clock steps the core; where the wait ends there, a transfer completes or does not, and a capture happens
or does not. -/
theorem serialCompletesAndCameraCaptures : Obligations.SerialCompletesAndCameraCaptures := by
  constructor
  · rintro s t core hp rfl rfl
    have htick := tickSerial_supplied hp
    have hdone := serialDone_iff (serialStepped s)
    refine ⟨fun hw hpartner hcompletes hclock => ?alone, fun hw hpartner hcompletes => ?partner, fun hw hnot => ?goesOn,
      fun hw => htick.trans (if_neg hw)⟩
    all_goals
      rw [if_pos hw] at htick
      refine htick.trans ?_
    case alone =>
      rw [serialTransition_completes (hdone.2 ⟨hcompletes, .inr hclock⟩),
        serialIncoming_alone (s := serialStepped s) hpartner]
      rfl
    case partner =>
      rw [serialTransition_completes (hdone.2 ⟨hcompletes, .inl hpartner⟩),
        serialIncoming_partner (s := serialStepped s) hpartner]
      rfl
    case goesOn =>
      refine serialTransition_goesOn fun h => ?_
      obtain ⟨hcompletes, hclock⟩ := hdone.1 h
      obtain hnot | ⟨hpartner, hexternal⟩ := hnot
      · exact Bool.noConfusion (hcompletes.symm.trans hnot)
      · obtain hclock | hclock := hclock
        · exact Bool.noConfusion (hclock.symm.trans hpartner)
        · exact Bool.noConfusion (hclock.symm.trans hexternal)
  · rintro s t core frame base hp hwf rfl rfl rfl rfl
    have htick := tickCamera_supplied hp
    refine ⟨fun hw hcaptures => ?captures, fun hw hquiet => ?quiet, fun hw => htick.trans (if_neg hw)⟩
    all_goals rw [if_pos hw] at htick
    case quiet => exact htick.trans (cameraTransition_quiet fun h => Bool.noConfusion (h.symm.trans hquiet))
    case captures =>
      replace htick : advance .camera 1 s = _ := htick.trans (cameraTransition_captures hcaptures)
      have heram := congrArg State.eram htick
      refine ⟨by rw [heram]; exact htick, fun k b hk hroom => ?_, fun j hj => ?_⟩ <;> rw [heram, cameraCapture_eq]
      · exact copyFrame_read_inside hwf hk hroom
      · exact copyFrame_read_outside hj

end Sys2Proof.Machine
end

section
/-! SUPPORT. RECONCILE composes (R286): a subsystem's clock does not see the reference clock and the counters, so that a
RECONCILE in stages, with the clock advanced between them, is one RECONCILE. -/

namespace Sys2Proof.Machine

open Sys2Proof.Safety

/-! ## What DMA transfers do not read -/

/-- `s`, but for the fields no DMA transfer reads, which are those of `o`: the clock and the counters, the timer, IF, sound,
serial and the anomaly log. -/
abbrev aside (o s : State) : State :=
  { s with
    ref := o.ref, last := o.last, timer := o.timer, ifReg := o.ifReg, sound := o.sound, serial := o.serial
    anomalies := o.anomalies }

theorem romRead_aside (bank off : Nat) (o s : State) :
    romRead (aside o s) bank off = ((romRead s bank off).1, aside o (romRead s bank off).2) := by
  unfold romRead
  dsimp only
  split <;> rfl

theorem windowRead_aside (a : Nat) (o s : State) :
    windowRead (aside o s) a = ((windowRead s a).1, aside o (windowRead s a).2) := by
  have hcamera : cameraRead a (aside o s) = ((cameraRead a s).1, aside o (cameraRead a s).2) := by
    unfold cameraRead
    dsimp only
    split <;> rfl
  have hselected : cameraSelected (aside o s) a = cameraSelected s a := rfl
  unfold windowRead
  rw [hselected]
  split
  · exact hcamera
  · dsimp only
    cases s.mapper with
    | mbc3 m | mbc7 m =>
      dsimp only
      split <;> rfl
    | _ => rfl

theorem mapperRead_aside (a : Nat) (o s : State) :
    mapperRead (aside o s) a = ((mapperRead s a).1, aside o (mapperRead s a).2) := by
  have hbanked : bankedRead (aside o s) a = ((bankedRead s a).1, aside o (bankedRead s a).2) := by
    unfold bankedRead
    split_ifs
    · exact romRead_aside _ _ o s
    · exact romRead_aside _ _ o s
    · exact windowRead_aside a o s
  unfold mapperRead
  dsimp only
  split
  · rfl
  all_goals exact hbanked

theorem dmaSrcRead_aside (a : Addr) (o s : State) :
    dmaSrcRead (aside o s) a = ((dmaSrcRead s a).1, aside o (dmaSrcRead s a).2) := by
  unfold dmaSrcRead rom0Read
  have hoverlaid (n : Nat) : overlaid (aside o s) n = overlaid s n := rfl
  dsimp only
  cases regionOf a with
  | rom0 =>
    dsimp only
    rw [hoverlaid]
    split
    · rfl
    · exact mapperRead_aside _ o s
  | romX | eram => exact mapperRead_aside _ o s
  | _ => rfl

/-! ## The transfers -/

theorem odmaCopy_aside (n : Nat) (o s : State) : odmaCopy n (aside o s) = aside o (odmaCopy n s) := by
  have hone (u : State) : odmaCopyOne (aside o u) = aside o (odmaCopyOne u) := by
    have hnext : odmaNext (aside o u) = odmaNext u := rfl
    unfold odmaCopyOne
    rw [hnext, dmaSrcRead_aside]
  induction n generalizing s with
  | zero => rfl
  | succ n ih => rw [odmaCopy, hone, ih, odmaCopy]

theorem tickOdma_aside (o s : State) : tickOdma (aside o s) = aside o (tickOdma s) := by
  have hcopy := odmaCopy_aside (odmaTarget (s.odma.elapsed + 1) - s.odma.copied) o
    { s with odma := { s.odma with elapsed := s.odma.elapsed + 1 } }
  unfold tickOdma odmaClock
  dsimp only at hcopy ⊢
  rw [hcopy]
  split
  · split <;> rfl
  · rfl

theorem copyBytes_aside (l : List Nat) (o s : State) :
    l.foldl (fun s i => copyBlockByte i s) (aside o s) = aside o (l.foldl (fun s i => copyBlockByte i s) s) := by
  have hread (n : Nat) (u : State) : hdmaSrcRead (aside o u) n = ((hdmaSrcRead u n).1, aside o (hdmaSrcRead u n).2) := by
    unfold hdmaSrcRead
    split
    · rfl
    · exact dmaSrcRead_aside _ o u
  have hone (i : Nat) (u : State) : copyBlockByte i (aside o u) = aside o (copyBlockByte i u) := by
    have htarget : hdmaTarget (aside o u) i = hdmaTarget u i := rfl
    unfold copyBlockByte
    rw [htarget, hread]
  induction l generalizing s with
  | nil => rfl
  | cons i l ih => rw [List.foldl_cons, hone, ih, List.foldl_cons]

theorem onHblank_aside (ly : Byte) (o s : State) : onHblank ly (aside o s) = aside o (onHblank ly s) := by
  have hblock : copyBlock (aside o s) = aside o (copyBlock s) := by
    unfold copyBlock
    rw [copyBytes_aside]
  have hfinish (u : State) : finishIfDone (aside o u) = aside o (finishIfDone u) := by
    unfold finishIfDone
    dsimp only
    split <;> rfl
  by_cases hm : s.hdma.mode = .hblank
  · by_cases hly : s.hdma.lastLy = some ly
    · rw [onHblank_sameLine hm hly, onHblank_sameLine (s := aside o s) hm hly]
    · rw [onHblank_newLine hm hly, onHblank_newLine (s := aside o s) hm hly, hblock]
      exact hfinish { copyBlock s with hdma := { (copyBlock s).hdma with
        lastLy := some ly, stall := (copyBlock s).hdma.stall + gdmaBlockClocks s } }
  · rw [onHblank_idle hm, onHblank_idle (s := aside o s) hm]

/-- A PPU clock sees none of these fields, and of them changes IF alone, by what it sees of the rest. -/
theorem ppuClock_aside (o s : State) : ∃ irqs : Byte → Byte,
    ppuClock (aside o s) = aside { o with ifReg := irqs o.ifReg } (ppuClock s) ∧
      (ppuClock s).ifReg = irqs s.ifReg := by
  obtain ⟨e, he⟩ : ∃ e, e = Config.ppuStep (collabContext s) s.ppu.view s.ppu.own.core s.vram.read s.oam.read :=
    ⟨_, rfl⟩
  have hstepped (u : State) : ppuStepped u e = { u with
      ppu := ppuAged u e (waitEnds (ppuWait u)), ifReg := ppuIf e (waitEnds (ppuWait u)) u.ifReg } := ppuIrqs_eq ..
  have hirqs (ly : Byte) (u : State) : (onHblank ly u).ifReg = u.ifReg :=
    (congrArg State.ifReg (onHblank_frame ly u)).trans rfl
  refine ⟨ppuIf e (waitEnds (ppuWait s)), ?_⟩
  have haside : ppuStepped (aside o s) e =
      aside { o with ifReg := ppuIf e (waitEnds (ppuWait s)) o.ifReg } (ppuStepped s e) := by
    rw [hstepped, hstepped]
    rfl
  have henters : entersHblank (aside o s).ppu.view (ppuAged (aside o s) e (waitEnds (ppuWait (aside o s)))).view =
    entersHblank s.ppu.view (ppuAged s e (waitEnds (ppuWait s))).view := rfl
  rw [ppuClock_eq he, ppuClock_eq (s := aside o s) he, henters, haside]
  split
  · refine ⟨onHblank_aside e.ly _ (drawLine e.ly (ppuStepped s e)), ?_⟩
    rw [hirqs, drawLine, hstepped]
  · exact ⟨rfl, by rw [hstepped]⟩

theorem tickPpu_aside (o s : State) : ∃ irqs : Byte → Byte,
    tickPpu (aside o s) = aside { o with ifReg := irqs o.ifReg } (tickPpu s) ∧ (tickPpu s).ifReg = irqs s.ifReg := by
  unfold tickPpu
  dsimp only
  split
  · split
    · exact ⟨id, rfl, rfl⟩
    · exact ppuClock_aside o { s with ppu := { s.ppu with halfClock := false } }
  · exact ⟨id, rfl, rfl⟩

/-! ## The clock and the counters -/

/-- `s` with its counters at `l` and its clock at `r`. -/
abbrev reclock (l : Lasts) (r : Nat) (s : State) : State := { s with last := l, ref := r }

theorem tickOdma_reclock (l : Lasts) (r : Nat) (s : State) : tickOdma (reclock l r s) = reclock l r (tickOdma s) := by
  have h := tickOdma_aside (reclock l r s) s
  rw [tickOdma_frame s] at h ⊢
  exact h

theorem tickPpu_reclock (l : Lasts) (r : Nat) (s : State) : tickPpu (reclock l r s) = reclock l r (tickPpu s) := by
  obtain ⟨irqs, h, hirqs⟩ := tickPpu_aside (reclock l r s) s
  dsimp only at h
  rw [← hirqs] at h
  refine h.trans ?_
  generalize ht : tickPpu s = t
  have hframe := tickPpu_frame s
  rw [ht] at hframe
  rw [hframe]

theorem tickSerial_reclock (l : Lasts) (r : Nat) (s : State) :
    tickSerial (reclock l r s) = reclock l r (tickSerial s) := by
  have htransition (u : State) : serialTransition (reclock l r u) = reclock l r (serialTransition u) := by
    have hdone : serialDone (reclock l r u) = serialDone u := rfl
    have hbyte : serialIncoming (reclock l r u) = ((serialIncoming u).1, reclock l r (serialIncoming u).2) := by
      unfold serialIncoming
      dsimp only
      split <;> rfl
    unfold serialTransition
    rw [hdone, hbyte]
    split <;> rfl
  have hstepped : serialStepped (reclock l r s) = reclock l r (serialStepped s) := rfl
  by_cases hp : s.params.hasSerial = true
  · rw [tickSerial_supplied hp, tickSerial_supplied (s := reclock l r s) hp, hstepped, htransition]
    dsimp only
    split <;> rfl
  · rw [tickSerial_absent hp, tickSerial_absent (s := reclock l r s) hp]

theorem tickCamera_reclock (l : Lasts) (r : Nat) (s : State) :
    tickCamera (reclock l r s) = reclock l r (tickCamera s) := by
  have hcopy (f : List Byte) (i : Nat) (u : State) : copyFrame f i (reclock l r u) = reclock l r (copyFrame f i u) := by
    induction f generalizing i u with
    | nil => rfl
    | cons v f ih =>
      unfold copyFrame
      rw [← ih]
      dsimp only
      split <;> rfl
  have heram (u : State) : (cameraCapture (reclock l r u)).eram = (cameraCapture u).eram := by
    rw [cameraCapture_eq, cameraCapture_eq]
    exact (congrArg State.eram (hcopy (capturedFrame u) (Config.cameraTarget u.camera.own.core) (frameTaken u)) :)
  have htransition (u : State) : cameraTransition (reclock l r u) = reclock l r (cameraTransition u) := by
    by_cases h : Config.cameraCaptures u.camera.own.core = true
    · rw [cameraTransition_captures h, cameraTransition_captures (s := reclock l r u) h, heram]
      rfl
    · rw [cameraTransition_quiet h, cameraTransition_quiet (s := reclock l r u) h]
  have hstepped : cameraStepped (reclock l r s) = reclock l r (cameraStepped s) := rfl
  by_cases hp : s.params.hasCamera = true
  · rw [tickCamera_supplied hp, tickCamera_supplied (s := reclock l r s) hp, hstepped, htransition]
    dsimp only
    split <;> rfl
  · rw [tickCamera_absent hp, tickCamera_absent (s := reclock l r s) hp]

/-- A clock of a subsystem neither reads nor writes the reference clock and the counters. -/
theorem tickSub_reclock (sub : Subsystem) (l : Lasts) (r : Nat) (s : State) :
    tickSub sub (reclock l r s) = reclock l r (tickSub sub s) := by
  cases sub with
  | timer =>
    unfold tickSub tickTimer
    dsimp only
    split <;> rfl
  | serial => exact tickSerial_reclock l r s
  | ppu => exact tickPpu_reclock l r s
  | sound =>
    unfold tickSub tickSound
    dsimp only
    split <;> rfl
  | dma => exact tickOdma_reclock l r s
  | camera => exact tickCamera_reclock l r s

theorem advance_reclock (sub : Subsystem) (d : Nat) (l : Lasts) (r : Nat) (s : State) :
    advance sub d (reclock l r s) = reclock l r (advance sub d s) := by
  induction d generalizing s with
  | zero => rfl
  | succ d ih => rw [advance, tickSub_reclock, ih, advance]

/-! ## RECONCILE in stages -/

theorem advance_add (sub : Subsystem) (a b : Nat) (s : State) :
    advance sub (a + b) s = advance sub b (advance sub a s) := by
  induction a generalizing s with
  | zero => rw [Nat.zero_add, advance]
  | succ a ih => rw [Nat.succ_add, advance, ih, advance]

theorem reconcile_reclock {sub : Subsystem} {n r : Nat} {l : Lasts} (hlast : l.get sub ≤ n) (hn : n ≤ r) (s : State) :
    reconcile sub n (reclock l r s) = reclock (l.set sub n) r (advance sub (n - l.get sub) s) := by
  rw [reconcile_due (s := reclock l r s) hlast hn, advance_reclock]
  rfl

/-- RECONCILE to `m` and then, with the clock at `r`, to `n` is RECONCILE to `n` with the clock at `r` (R286). -/
theorem reconcile_stages {sub : Subsystem} {m n r : Nat} {s : State} (hlast : s.last.get sub ≤ m) (hmn : m ≤ n)
    (hm : m ≤ s.ref) (hn : n ≤ r) :
    reconcile sub n { reconcile sub m s with ref := r } = reconcile sub n { s with ref := r } := by
  have hget : (s.last.set sub m).get sub = m := by rw [lasts_get_set, if_pos rfl]
  have hsum : (m - s.last.get sub) + (n - m) = n - s.last.get sub := by omega
  rw [reconcile_reclock (hlast.trans hmn) hn, reconcile_reclock (l := s.last) hlast hm s]
  refine (reconcile_reclock (hget.trans_le hmn) hn (advance sub (m - s.last.get sub) s)).trans ?_
  rw [hget, ← advance_add, hsum, lasts_set_set]

theorem reconcile_due_keeps {sub : Subsystem} {r : Nat} {s : State} (hlast : s.last.get sub ≤ r) (hr : r ≤ s.ref) :
    (reconcile sub r s).ref = s.ref ∧ (reconcile sub r s).fault = s.fault ∧ (reconcile sub r s).last.get sub = r := by
  rw [reconcile_due hlast hr]
  refine ⟨advance_ref _ _ _, advance_fault _ _ _, ?_⟩
  rw [setLast_last, lasts_get_set, if_pos rfl]

/-- RECONCILE to one clock and then to a later one is RECONCILE to the later one (R286). -/
theorem exec_reconcile_stages {s : State} {sub : Subsystem} {m n : Count} (hs : Ready s)
    (hlast : s.last.get sub ≤ m.toNat) (hmn : m.toNat ≤ n.toNat) (hn : n.toNat ≤ s.ref) :
    ∃ t u, exec (reconcileOf sub m) s = .next t ∧ t.last.get sub = m.toNat ∧
      exec (reconcileOf sub n) t = .next u ∧ exec (reconcileOf sub n) s = .next u ∧ u.last.get sub = n.toNat := by
  have hm := hmn.trans hn
  obtain ⟨href, hfault, hget⟩ := reconcile_due_keeps (s := begun s) hlast hm
  have hstages := reconcile_stages (s := begun s) hlast hmn hm hn
  refine ⟨_, _, exec_reconcileOf hs sub m, hget, ?_, exec_reconcileOf hs sub n,
    (reconcile_due_keeps (s := begun s) (hlast.trans hmn) hn).2.2⟩
  rw [exec_reconcileOf (hfault.trans hs), begun_of_response (reconcile_response ..)]
  refine congrArg _ (Eq.trans ?_ hstages)
  rw [← href]

/-- So it is where CLKADD advances the clock between the two (R286). -/
theorem exec_reconcile_clkadd {s : State} {sub : Subsystem} {m n d : Count} (hs : Ready s)
    (hlast : s.last.get sub ≤ m.toNat) (hmn : m.toNat ≤ n.toNat) (hm : m.toNat ≤ s.ref)
    (hn : n.toNat ≤ s.ref + d.toNat) (hroom : s.ref + d.toNat ≤ 0x7FFFFFFF) :
    ∃ t t' s' u, exec (reconcileOf sub m) s = .next t ∧ exec (.clkadd d) t = .next t' ∧
      exec (.clkadd d) s = .next s' ∧ exec (reconcileOf sub n) t' = .next u ∧ exec (reconcileOf sub n) s' = .next u := by
  obtain ⟨href, hfault, -⟩ := reconcile_due_keeps (s := begun s) hlast hm
  have hstages := reconcile_stages (s := begun s) hlast hmn hm hn
  have hresponse : (reconcile sub m.toNat (begun s)).response = none := reconcile_response ..
  have ht := exec_reconcileOf hs sub m
  generalize reconcile sub m.toNat (begun s) = t at *
  have hready : Ready t := hfault.trans hs
  have hclock : ({ t with ref := t.ref + d.toNat, response := none } : State) = { t with ref := s.ref + d.toNat } := by
    rw [href, ← hresponse]
  refine ⟨t, _, _, _, ht, (clkaddAdvancesTheClock t d hready).1 (by rwa [href]), (clkaddAdvancesTheClock s d hs).1 hroom,
    exec_reconcileOf (s := { t with ref := t.ref + d.toNat, response := none }) hready sub n,
    (exec_reconcileOf (s := { s with ref := s.ref + d.toNat, response := none }) hs sub n).trans (congrArg _ ?_)⟩
  exact hstages.symm.trans (congrArg (reconcile sub n.toNat) hclock.symm)

end Sys2Proof.Machine
end

section
/-! SUPPORT. Lockstep and a subsystem's own advance (R284): what a subsystem makes of itself with its own clocks, no other
subsystem's clock in between reaching it. -/

namespace Sys2Proof.Machine

open Sys2Proof.Safety

/-! ## Own views -/

/-- In the states `P`, which lockstep does not leave, `view` follows from the clocks of `sub` alone. -/
structure OwnView {α : Type} (sub : Subsystem) (P : State → Prop) (view : State → α) : Prop where
  own {u v : State} : P u → P v → view u = view v → view (tickSub sub u) = view (tickSub sub v)
  other {u : State} {b : Subsystem} : P u → b ≠ sub → view (tickSub b u) = view u
  stored (b : Subsystem) (r : Nat) (u : State) : view (setLast b r u) = view u
  keepsTick {u : State} (b : Subsystem) : P u → P (tickSub b u)
  keepsStored {u : State} (b : Subsystem) (r : Nat) : P u → P (setLast b r u)

theorem advance_succ' (sub : Subsystem) (d : Nat) (s : State) :
    advance sub (d + 1) s = tickSub sub (advance sub d s) := advance_add sub d 1 s

section
variable {α : Type} {sub : Subsystem} {P : State → Prop} {view : State → α}

theorem ownView_keepsAdvance (h : OwnView sub P view) {s : State} (hs : P s) (d : Nat) : P (advance sub d s) := by
  induction d generalizing s with
  | zero => exact hs
  | succ d ih => exact ih (h.keepsTick sub hs)

/-- From `s` to `u` the view of `sub` has been clocked as often as its counter has risen. -/
def ViewClocked (sub : Subsystem) (view : State → α) (s u : State) : Prop :=
  ∃ d, u.last.get sub = s.last.get sub + d ∧ view u = view (advance sub d s)

theorem ownView_lockOne (h : OwnView sub P view) {s u : State} (hs : P s) (c : Nat) (b : Subsystem)
    (hu : P u ∧ ViewClocked sub view s u) : P (lockOne c u b) ∧ ViewClocked sub view s (lockOne c u b) := by
  obtain ⟨hP, d, hlast, hview⟩ := hu
  by_cases hdue : u.last.get b = c
  · have hone : lockOne c u b = setLast b (c + 1) (tickSub b u) := if_pos hdue
    refine ⟨hone ▸ h.keepsStored b _ (h.keepsTick b hP), ?_⟩
    unfold ViewClocked
    rw [lockOne_get, hone, h.stored]
    by_cases hb : b = sub
    · subst hb
      refine ⟨d + 1, by rw [if_pos ⟨rfl, hdue⟩]; omega, ?_⟩
      rw [advance_succ']
      exact h.own hP (ownView_keepsAdvance h hs d) hview
    · refine ⟨d, by rwa [if_neg fun hc => hb hc.1.symm], (h.other hP hb).trans hview⟩
  · have hone : lockOne c u b = u := if_neg hdue
    rw [hone]
    exact ⟨hP, d, hlast, hview⟩

/-- Lockstep leaves such a view as the subsystem's own advance by its lag would (R284). -/
theorem ownView_reconcileAll (h : OwnView sub P view) {s : State} (hc : CounterBounds s) (hs : P s) :
    view (reconcileAll s) = view (advance sub (s.ref - s.last.get sub) s) := by
  obtain ⟨-, d, hlast, hview⟩ : P (reconcileAll s) ∧ ViewClocked sub view s (reconcileAll s) :=
    reconcileAll_of_lockOne (P := fun u => P u ∧ ViewClocked sub view s u) (fun c _ b hu => ownView_lockOne h hs c b hu)
      ⟨hs, 0, rfl, rfl⟩
  have href : (reconcileAll s).last.get sub = s.ref := (reconcileAll_settled hc sub).trans (reconcileAll_ref s)
  have hd : d = s.ref - s.last.get sub := Nat.eq_sub_of_add_eq' (hlast.symm.trans href)
  rw [hview, hd]

end

theorem reconcileOnly_tick {s u : State} (b : Subsystem) (h : ReconcileOnly s u) : ReconcileOnly s (tickSub b u) :=
  reconcileOnly_trans h (reconcileOnly_of_advanceOnly (tickSub_only b u))

theorem reconcileOnly_setLast {s u : State} (b : Subsystem) (r : Nat) (h : ReconcileOnly s u) :
    ReconcileOnly s (setLast b r u) :=
  reconcileOnly_trans h (setLast_only b r u)

/-! ## The subsystems' own fields -/

/-- A subsystem's own fields, every other one as at reset. -/
def ownPart (sub : Subsystem) (s : State) : State :=
  match sub with
  | .timer => { State.reset with timer := s.timer }
  | .serial => { State.reset with serial := s.serial }
  | .ppu => { State.reset with ppu := s.ppu }
  | .sound => { State.reset with sound := s.sound }
  | .dma => { State.reset with odma := s.odma }
  | .camera => { State.reset with camera := s.camera }

/-- No other subsystem's clock reaches them (R289). -/
theorem tickSub_ownPart {b sub : Subsystem} (h : b ≠ sub) (s : State) : ownPart sub (tickSub b s) = ownPart sub s := by
  cases b with
  | timer =>
    rw [tickSub, tickTimer_frame]
    cases sub with
    | timer => contradiction
    | serial | ppu | sound | dma | camera => rfl
  | serial =>
    rw [tickSub, tickSerial_frame]
    cases sub with
    | serial => contradiction
    | timer | ppu | sound | dma | camera => rfl
  | ppu =>
    rw [tickSub, tickPpu_frame]
    cases sub with
    | ppu => contradiction
    | timer | serial | sound | dma | camera => rfl
  | sound =>
    rw [tickSub, tickSound_frame]
    cases sub with
    | sound => contradiction
    | timer | serial | ppu | dma | camera => rfl
  | dma =>
    rw [tickSub, tickOdma_frame]
    cases sub with
    | dma => contradiction
    | timer | serial | ppu | sound | camera => rfl
  | camera =>
    rw [tickSub, tickCamera_frame]
    cases sub with
    | camera => contradiction
    | timer | serial | ppu | sound | dma => rfl

/-- Two states of one console at one speed. -/
def SameConsole (u v : State) : Prop := u.params = v.params ∧ collabContext u = collabContext v

theorem sameConsole_of_reconcileOnly {s u v : State} (hu : ReconcileOnly s u) (hv : ReconcileOnly s v) :
    SameConsole u v := by
  have h {w : State} (hw : ReconcileOnly s w) : w.params = s.params ∧ collabContext w = collabContext s :=
    ⟨(congrArg State.params hw :), (congrArg collabContext hw :)⟩
  obtain ⟨⟨hup, huc⟩, ⟨hvp, hvc⟩⟩ := And.intro (h hu) (h hv)
  exact ⟨hup.trans hvp.symm, huc.trans hvc.symm⟩

theorem tickOdma_odma_congr {u v : State} (h : u.odma = v.odma) : (tickOdma u).odma = (tickOdma v).odma := by
  unfold tickOdma odmaClock
  simp only [odmaCopy_odma, h]
  split
  · split <;> simp only [odmaCopy_odma]
  · exact h

theorem tickSound_sound_congr {u v : State} (hc : SameConsole u v) (h : u.sound = v.sound) :
    (tickSound u).sound = (tickSound v).sound := by
  unfold tickSound ageCore
  rw [hc.1, hc.2, h]
  split
  · rfl
  · exact h

theorem serialTransition_alone {s : State} (h : s.params.serialPartner = false) :
    (serialTransition s).draws = s.draws ∧ (serialTransition s).serial =
      Config.collabEvent .serial (if serialDone s then Config.serialReceive s.serial.core 0xFF else s.serial.core) := by
  by_cases hdone : serialDone s = true
  · rw [serialTransition_completes hdone, serialIncoming_alone h, if_pos hdone]
    exact ⟨rfl, rfl⟩
  · rw [serialTransition_goesOn hdone, if_neg hdone]
    exact ⟨rfl, rfl⟩

theorem tickSerial_serial_congr {u v : State} (hc : SameConsole u v) (halone : v.params.serialPartner = false)
    (h : u.serial = v.serial) : (tickSerial u).serial = (tickSerial v).serial := by
  obtain ⟨hparams, hcontext⟩ := hc
  have hstepped : (serialStepped u).serial = (serialStepped v).serial := by simp only [serialStepped, hcontext, h]
  have hdone : serialDone (serialStepped u) = serialDone (serialStepped v) := by
    have hp : (serialStepped u).params = (serialStepped v).params := hparams
    rw [serialDone, serialDone, hstepped, hp]
  by_cases hs : v.params.hasSerial = true
  · rw [tickSerial_supplied hs, tickSerial_supplied (hparams ▸ hs), h]
    split
    · rw [(serialTransition_alone (s := serialStepped u) (hparams ▸ halone)).2,
        (serialTransition_alone (s := serialStepped v) halone).2, hdone, hstepped]
    · exact hstepped
  · rw [tickSerial_absent hs, tickSerial_absent (hparams ▸ hs), h]

theorem tickCamera_camera_congr {u v : State} (hc : SameConsole u v) (h : u.camera = v.camera) :
    (tickCamera u).camera = (tickCamera v).camera := by
  obtain ⟨hparams, hcontext⟩ := hc
  have hstepped : (cameraStepped u).camera = (cameraStepped v).camera := by simp only [cameraStepped, hcontext, h]
  have hframe : capturedFrame (cameraStepped u) = capturedFrame (cameraStepped v) := by
    have hp : (cameraStepped u).params = (cameraStepped v).params := hparams
    rw [capturedFrame, capturedFrame, hstepped, hp]
  by_cases hs : v.params.hasCamera = true
  · rw [tickCamera_supplied hs, tickCamera_supplied (hparams ▸ hs), h]
    split
    · by_cases hcap : Config.cameraCaptures (cameraStepped v).camera.own.core = true
      · rw [cameraTransition_captures hcap, cameraTransition_captures (hstepped ▸ hcap), hframe, hstepped]
      · rw [cameraTransition_quiet hcap, cameraTransition_quiet (hstepped ▸ hcap), hstepped]
    · exact hstepped
  · rw [tickCamera_absent hs, tickCamera_absent (hparams ▸ hs), h]

/-- A view that reads the subsystem's own fields only, from one console. -/
theorem ownView_of_ownPart {α : Type} {sub : Subsystem} {view : State → α} (s : State)
    (hread : ∀ u v, ownPart sub u = ownPart sub v → view u = view v)
    (hown : ∀ u v, ReconcileOnly s u → ReconcileOnly s v → view u = view v →
      view (tickSub sub u) = view (tickSub sub v)) :
    OwnView sub (ReconcileOnly s) view where
  own hu hv := hown _ _ hu hv
  other _ hb := hread _ _ (tickSub_ownPart hb _)
  stored _ _ _ := hread _ _ (by cases sub <;> rfl)
  keepsTick b := reconcileOnly_tick b
  keepsStored b r := reconcileOnly_setLast b r

theorem reconcileAll_odma {s : State} (hc : CounterBounds s) :
    (reconcileAll s).odma = (advance .dma (s.ref - s.last.dma) s).odma :=
  ownView_reconcileAll (sub := .dma) (view := State.odma)
    (ownView_of_ownPart s (fun _ _ h => (congrArg State.odma h :)) fun _ _ _ _ => tickOdma_odma_congr) hc rfl

theorem reconcileAll_sound {s : State} (hc : CounterBounds s) :
    (reconcileAll s).sound = (advance .sound (s.ref - s.last.sound) s).sound :=
  ownView_reconcileAll (sub := .sound) (view := State.sound)
    (ownView_of_ownPart s (fun _ _ h => (congrArg State.sound h :)) fun _ _ hu hv =>
      tickSound_sound_congr (sameConsole_of_reconcileOnly hu hv)) hc rfl

theorem reconcileAll_camera {s : State} (hc : CounterBounds s) :
    (reconcileAll s).camera = (advance .camera (s.ref - s.last.camera) s).camera :=
  ownView_reconcileAll (sub := .camera) (view := State.camera)
    (ownView_of_ownPart s (fun _ _ h => (congrArg State.camera h :)) fun _ _ hu hv =>
      tickCamera_camera_congr (sameConsole_of_reconcileOnly hu hv)) hc rfl

theorem reconcileAll_serial {s : State} (hc : CounterBounds s) (halone : s.params.serialPartner = false) :
    (reconcileAll s).serial = (advance .serial (s.ref - s.last.serial) s).serial :=
  ownView_reconcileAll (sub := .serial) (view := State.serial)
    (ownView_of_ownPart s (fun _ _ h => (congrArg State.serial h :)) fun _ _ hu hv =>
      tickSerial_serial_congr (sameConsole_of_reconcileOnly hu hv)
      ((congrArg (fun w : State => w.params.serialPartner) hv).trans halone)) hc rfl

/-! ## OAM DMA and the PPU -/

/-- What the DMA engines read and write, and the PPU's state: every field but those `aside` sets. -/
abbrev dmaView (s : State) : State := aside State.reset s

/-- Without a camera and a serial partner the other subsystems neither write what the DMA engines read nor take draws. -/
theorem tickSub_dmaView {b : Subsystem} {s : State} (hdma : b ≠ .dma) (hppu : b ≠ .ppu)
    (hcamera : s.params.hasCamera = false) (halone : s.params.serialPartner = false) :
    dmaView (tickSub b s) = dmaView s := by
  cases b with
  | dma | ppu => contradiction
  | timer => rw [tickSub, tickTimer_frame]
  | sound => rw [tickSub, tickSound_frame]
  | camera => rw [tickSub, tickCamera_absent (by simp [hcamera])]
  | serial =>
    have hdraws : (tickSerial s).draws = s.draws := by
      by_cases hp : s.params.hasSerial = true
      · rw [tickSerial_supplied hp]
        split
        · exact (serialTransition_alone (s := serialStepped s) halone).1
        · rfl
      · rw [tickSerial_absent hp]
    rw [tickSub, tickSerial_frame, hdraws]

theorem tickOdma_dmaView {u v : State} (h : dmaView u = dmaView v) : dmaView (tickOdma u) = dmaView (tickOdma v) := by
  have hview (w : State) : dmaView (tickOdma w) = tickOdma (dmaView w) := (tickOdma_aside State.reset w).symm
  rw [hview, hview, h]

theorem tickPpu_dmaView {u v : State} (h : dmaView u = dmaView v) : dmaView (tickPpu u) = dmaView (tickPpu v) := by
  have hview (w : State) : dmaView (tickPpu (dmaView w)) = dmaView (tickPpu w) := by
    obtain ⟨irqs, hw, -⟩ := tickPpu_aside State.reset w
    rw [hw]
  rw [← hview u, h, hview]

/-- Without a PPU, a camera and a serial partner nothing but its own clocks reaches OAM DMA. -/
theorem ownView_dma {s : State} (hppu : s.params.hasPpu = false) (hcamera : s.params.hasCamera = false)
    (halone : s.params.serialPartner = false) : OwnView .dma (ReconcileOnly s) dmaView where
  own _ _ := tickOdma_dmaView
  other {u b} hu hb := by
    have hparams : u.params = s.params := (congrArg State.params hu :)
    by_cases hp : b = .ppu
    · rw [hp, tickSub, tickPpu_absent (by rwa [hparams])]
    · exact tickSub_dmaView hb hp (by rwa [hparams]) (by rwa [hparams])
  stored _ _ _ := rfl
  keepsTick b := reconcileOnly_tick b
  keepsStored b r := reconcileOnly_setLast b r

/-- Without an active OAM DMA, a camera and a serial partner nothing but its own clocks reaches the PPU. -/
theorem ownView_ppu {s : State} (hcamera : s.params.hasCamera = false) (halone : s.params.serialPartner = false) :
    OwnView .ppu (fun u => ReconcileOnly s u ∧ u.odma.active = false) dmaView where
  own _ _ := tickPpu_dmaView
  other {u b} hu hb := by
    have hparams : u.params = s.params := (congrArg State.params hu.1 :)
    by_cases hd : b = .dma
    · rw [hd, tickSub, tickOdma, if_neg (by simp [hu.2])]
    · exact tickSub_dmaView hd hb (by rwa [hparams]) (by rwa [hparams])
  stored _ _ _ := rfl
  keepsTick {u} b hu := by
    refine ⟨reconcileOnly_tick b hu.1, ?_⟩
    by_cases hd : b = .dma
    · rw [hd, tickSub, tickOdma, if_neg (by simp [hu.2])]
      exact hu.2
    · exact (congrArg (fun w : State => w.odma.active) (tickSub_ownPart hd u)).trans hu.2
  keepsStored b r hu := ⟨reconcileOnly_setLast b r hu.1, hu.2⟩

/-! ## The next events of the timer and of DMA -/

theorem timerPeriod_eq (tac : BitVec 3) : timerPeriod tac =
    if tac.toNat % 4 = 0 then 1024 else if tac.toNat % 4 = 1 then 16 else if tac.toNat % 4 = 2 then 64 else 256 := by
  revert tac
  decide

theorem timerEnabled_iff (tac : BitVec 3) : tac.getLsbD 2 = true ↔ 4 ≤ tac.toNat := by
  revert tac
  decide

/-- The overflow of an enabled timer is at least a clock away (R331). -/
theorem timerOverflow_pos (t : Timer) : 1 ≤ timerOverflow t := by
  have hperiod : 0 < timerPeriod t.tac := Nat.two_pow_pos _
  have := Nat.mod_lt t.sysClocks.toNat hperiod
  unfold timerOverflow overflowIn
  omega

theorem nextTimer_pos (t : Timer) : 1 ≤ nextTimer t := by
  have := timerOverflow_pos t
  rw [nextTimer_eq]
  unfold inf
  split_ifs <;> omega

/-- What NEXTEVT answers of the timer (R282, R331). -/
theorem nextTimer_capped (t : Timer) : min (nextTimer t) 0x7FFFFFFF =
    min (if t.reloadCd = 0 then 0x7FFFFFFF else t.reloadCd)
      (min (if t.irqCd = 0 then 0x7FFFFFFF else t.irqCd)
        (if 4 ≤ t.tac.toNat then min 0x7FFFFFFF (timerOverflow t) else 0x7FFFFFFF)) := by
  rw [nextTimer_eq]
  simp only [timerEnabled_iff, inf]
  split_ifs <;> omega

theorem exec_nextevtDma {s : State} (hs : Ready s) : (s.odma.active = false →
      exec .nextevtDma s = .next { s with response := some (.clocks 0x7FFFFFFF) }) ∧
    (s.odma.active = true → s.odma.elapsed < 644 →
      exec .nextevtDma s = .next { s with response := some (.clocks (644 - s.odma.elapsed)) }) := by
  have hnext : nextEvent .dma s = if s.odma.active then 644 - s.odma.elapsed else 0x7FFFFFFF := rfl
  have hdue := exec_nextevtOf_due (s := s) (sub := .dma) hs
  rw [hnext] at hdue
  constructor
  · intro ha
    rw [if_neg (by simp [ha])] at hdue
    exact hdue (by decide)
  · intro ha he
    rw [if_pos ha, Nat.min_eq_left (by omega)] at hdue
    exact hdue (by omega)

/-- Settles O19: RECONCILE is an iteration of clocks that do not see the clock, and lockstep runs a subsystem's clocks in
order, with no other subsystem's clock reaching its view between them. -/
theorem reconcilingInStagesComposes : Obligations.ReconcilingInStagesComposes := by
  refine ⟨fun s sub m n => exec_reconcile_stages, fun s sub m n d => exec_reconcile_clkadd, fun s hc => ?lockstep,
    fun s k p hs hk hp => ?timer, fun s hs => exec_nextevtDma hs⟩
  case lockstep =>
    refine ⟨reconcileAll_odma hc, reconcileAll_sound hc, reconcileAll_camera hc, reconcileAll_serial hc,
      fun hppu hcamera halone => ?_, fun hidle hcamera halone => ?_⟩
    · have h := ownView_reconcileAll (ownView_dma hppu hcamera halone) hc rfl
      exact (congrArg State.oam h :)
    · have h := ownView_reconcileAll (ownView_ppu hcamera halone) hc ⟨rfl, hidle⟩
      exact ⟨(congrArg State.ppu h :), (congrArg State.vram h :), (congrArg State.hdma h :)⟩
  case timer =>
    refine (exec_nextevtOf_due (sub := .timer) hs (nextTimer_pos s.timer)).trans ?_
    rw [nextEvent, nextTimer_capped, timerOverflow, overflowIn, timerPeriod_eq, hp, hk]

end Sys2Proof.Machine
end

section
/-! SUPPORT. The clock of the timer (R310-R313, R333, R334): what its parts do, and the clocks of one period, in which
an enabled timer counts TIMA once, where the period ends. -/

namespace Sys2Proof.Machine

open Sys2Proof.Safety

/-! ## The parts of a clock -/

theorem incTima_overflow {t : Timer} (h : t.tima = 0xFF) : incTima t = { t with tima := 0, reloadCd := 4, irqCd := 4 } :=
  if_pos h

theorem incTima_noOverflow {t : Timer} (h : t.tima ≠ 0xFF) : incTima t = { t with tima := t.tima + 1 } := if_neg h

/-- TIMA's count leaves the divider, TMA and TAC (R312). -/
theorem incTima_keeps (t : Timer) :
    (incTima t).sysClocks = t.sysClocks ∧ (incTima t).tma = t.tma ∧ (incTima t).tac = t.tac := by
  unfold incTima
  split <;> exact ⟨rfl, rfl, rfl⟩

theorem stepReload_eq (t : Timer) : stepReload t =
    { t with reloadCd := t.reloadCd - 1, tima := if t.reloadCd = 1 then t.tma else t.tima } := by
  by_cases h : t.reloadCd = 1
  · simp [stepReload, h]
  · rw [stepReload_running h, if_neg h]

/-- The two countdowns of a clock, before its divider step (R313). -/
theorem stepCountdowns_eq (t : Timer) : stepIrqCd (stepReload t) =
    { t with
      reloadCd := t.reloadCd - 1, irqCd := t.irqCd - 1, tima := if t.reloadCd = 1 then t.tma else t.tima } := by
  rw [stepIrqCd_eq, stepReload_eq]

theorem stepDivider_keeps (t : Timer) : (stepDivider t).sysClocks = t.sysClocks + 1 ∧
    (stepDivider t).tma = t.tma ∧ (stepDivider t).tac = t.tac := by
  unfold stepDivider
  dsimp only
  split
  · exact incTima_keeps { t with sysClocks := t.sysClocks + 1 }
  · exact ⟨rfl, rfl, rfl⟩

/-- The signal after a divider step is that of the divider alone (R311). -/
theorem timerSignal_stepDivider (t : Timer) :
    timerSignal (stepDivider t) = timerSignal { t with sysClocks := t.sysClocks + 1 } := by
  obtain ⟨hsys, -, htac⟩ := stepDivider_keeps t
  simp only [timerSignal, hsys, htac]

theorem stepDivider_falling {t : Timer} (h : timerSignal t = true ∧ timerSignal (stepDivider t) = false) :
    stepDivider t = incTima { t with sysClocks := t.sysClocks + 1 } := by
  obtain ⟨hhigh, hlow⟩ := h
  rw [timerSignal_stepDivider] at hlow
  exact if_pos (by rw [hhigh, hlow]; rfl)

theorem stepDivider_notFalling {t : Timer} (h : ¬ (timerSignal t = true ∧ timerSignal (stepDivider t) = false)) :
    stepDivider t = { t with sysClocks := t.sysClocks + 1 } := by
  rw [timerSignal_stepDivider] at h
  exact if_neg (by simpa using h)

/-- A clock sets IF[2] where its interrupt countdown ends (R313). -/
theorem tickTimer_eq (s : State) : tickTimer s = { s with
    timer := clockTimer s.timer, ifReg := if s.timer.irqCd = 1 then s.ifReg ||| 0x04 else s.ifReg } := by
  unfold tickTimer
  split <;> rfl

/-- Settles O33: the countdowns of the clock make `t`, and its divider step makes `u` of it. -/
theorem oneTimerClock : Obligations.OneTimerClock := by
  intro s
  have hcount := stepCountdowns_eq s.timer
  have hif : (tickTimer s).ifReg = if s.timer.irqCd = 1 then s.ifReg ||| 0x04 else s.ifReg :=
    congrArg State.ifReg (tickTimer_eq s)
  obtain ⟨htma, htac⟩ := tickTimer_registers s
  obtain ⟨hsys, -⟩ := stepDivider_keeps (stepIrqCd (stepReload s.timer))
  rw [tickTimer_timer] at htma htac
  refine ⟨stepIrqCd (stepReload s.timer), clockTimer s.timer, tickTimer_timer s,
    ?sysClocks, ?tma, ?tac, ?reloadCd, ?irqCd, ?reload, ?noReload, fun h => hif.trans (if_pos h),
    fun h => hif.trans (if_neg h), hsys.trans (congrArg (· + 1) ?sysClocks), htma, htac, ?overflow, ?counts, ?steady⟩
  case sysClocks | tma | tac | reloadCd | irqCd => rw [hcount]
  case reload =>
    intro h
    rw [hcount]
    exact if_pos h
  case noReload =>
    intro h
    rw [hcount]
    exact if_neg h
  case overflow =>
    rintro ⟨hhigh, hlow, hff⟩
    rw [clockTimer, (stepDivider_falling ⟨hhigh, hlow⟩).trans (incTima_overflow hff)]
    exact ⟨rfl, rfl, rfl⟩
  case counts =>
    rintro ⟨hhigh, hlow, hff⟩
    rw [clockTimer, (stepDivider_falling ⟨hhigh, hlow⟩).trans (incTima_noOverflow hff)]
    exact ⟨rfl, rfl, rfl⟩
  case steady =>
    intro h
    rw [clockTimer, stepDivider_notFalling h]
    exact ⟨rfl, rfl, rfl⟩

/-! ## Clocks in which TIMA does not count -/

/-- The clocks since the divider was last at a multiple of the period (R310). -/
def timerPhase (t : Timer) : Nat := t.sysClocks.toNat % timerPeriod t.tac

theorem timerPhase_lt (t : Timer) : timerPhase t < timerPeriod t.tac := Nat.mod_lt _ (Nat.two_pow_pos _)

theorem sixteen_le_timerPeriod (tac : BitVec 3) : 16 ≤ timerPeriod tac := by
  have := timerPeriod_mem tac
  omega

/-- Every period divides the divider's range, so its wrap ends a period. -/
theorem timerPeriod_dvd (tac : BitVec 3) : timerPeriod tac ∣ 2 ^ 16 := by
  obtain h | h | h | h := timerPeriod_mem tac <;> rw [h] <;> decide

theorem timerPhase_congr {t u : Timer} (hsys : u.sysClocks = t.sysClocks) (htac : u.tac = t.tac) :
    timerPhase u = timerPhase t := by
  rw [timerPhase, timerPhase, hsys, htac]

/-- The timer after `d` clocks in which TIMA does not count: the divider has moved on, both countdowns have run, and TMA is
loaded where the reload's has ended. -/
def uncountedTimer (d : Nat) (t : Timer) : Timer :=
  { t with
    sysClocks := t.sysClocks + BitVec.ofNat 16 d, reloadCd := t.reloadCd - d, irqCd := t.irqCd - d
    tima := if 0 < t.reloadCd ∧ t.reloadCd ≤ d then t.tma else t.tima }

/-- The state after such clocks: IF[2] is set where the interrupt countdown has ended. -/
def uncounted (d : Nat) (s : State) : State :=
  { s with
    timer := uncountedTimer d s.timer
    ifReg := if 0 < s.timer.irqCd ∧ s.timer.irqCd ≤ d then s.ifReg ||| 0x04 else s.ifReg }

theorem timerPhase_uncountedTimer (d : Nat) (t : Timer) :
    timerPhase (uncountedTimer d t) = (timerPhase t + d) % timerPeriod t.tac := by
  simp only [timerPhase, uncountedTimer, BitVec.toNat_add, BitVec.toNat_ofNat, Nat.add_mod_mod,
    Nat.mod_mod_of_dvd _ (timerPeriod_dvd t.tac), Nat.mod_add_mod]

theorem uncountedTimer_tima {d : Nat} {t : Timer} (h : t.reloadCd = 0 ∨ d < t.reloadCd) :
    (uncountedTimer d t).tima = t.tima := if_neg (by omega)

theorem uncountedTimer_tima_reloaded {d : Nat} {t : Timer} (h : 0 < t.reloadCd ∧ t.reloadCd ≤ d) :
    (uncountedTimer d t).tima = t.tma := if_pos h

theorem uncounted_ifReg_eq (d : Nat) (s : State) : (uncounted d s).ifReg =
    if 0 < s.timer.irqCd ∧ s.timer.irqCd ≤ d then s.ifReg ||| 0x04 else s.ifReg := rfl

theorem uncounted_ifReg {d : Nat} {s : State} (h : s.timer.irqCd = 0 ∨ d < s.timer.irqCd) :
    (uncounted d s).ifReg = s.ifReg := if_neg (by omega)

theorem uncounted_ifReg_raised {d : Nat} {s : State} (h : 0 < s.timer.irqCd ∧ s.timer.irqCd ≤ d) :
    (uncounted d s).ifReg = s.ifReg ||| 0x04 := if_pos h

theorem uncounted_zero (s : State) : uncounted 0 s = s := by
  have htimer : uncountedTimer 0 s.timer = s.timer := by
    unfold uncountedTimer
    rw [if_neg (by omega), BitVec.add_zero]
    rfl
  unfold uncounted
  rw [if_neg (by omega), htimer]

theorem uncountedTimer_succ (d : Nat) (t : Timer) :
    uncountedTimer 1 (uncountedTimer d t) = uncountedTimer (d + 1) t := by
  have hsys : t.sysClocks + BitVec.ofNat 16 d + 1#16 = t.sysClocks + BitVec.ofNat 16 (d + 1) := by
    rw [BitVec.add_assoc, ← BitVec.ofNat_add]
  have htima : (uncountedTimer 1 (uncountedTimer d t)).tima = (uncountedTimer (d + 1) t).tima :=
    (ite_or ..).symm.trans (if_congr (by dsimp only [uncountedTimer]; omega) rfl rfl)
  exact (Timer.mk.injEq ..).mpr ⟨hsys, htima, rfl, rfl, Nat.sub_sub .., Nat.sub_sub ..⟩

theorem uncounted_succ (d : Nat) (s : State) : uncounted 1 (uncounted d s) = uncounted (d + 1) s := by
  have hirq : (uncounted d s).timer.irqCd = s.timer.irqCd - d := rfl
  have hif : (uncounted 1 (uncounted d s)).ifReg = (uncounted (d + 1) s).ifReg := by
    by_cases hwaits : s.timer.irqCd = 0 ∨ d < s.timer.irqCd
    · rw [uncounted_ifReg_eq, uncounted_ifReg hwaits, uncounted_ifReg_eq]
      exact if_congr (by omega) rfl rfl
    · rw [uncounted_ifReg (by omega), uncounted_ifReg_raised (by omega), uncounted_ifReg_raised (by omega)]
  change { s with
    timer := uncountedTimer 1 (uncountedTimer d s.timer), ifReg := (uncounted 1 (uncounted d s)).ifReg } = _
  rw [uncountedTimer_succ, hif]
  rfl

/-- An enabled timer counts on the clock that ends a period, and on no other (R310, R311). -/
theorem clockTimer_eq (t : Timer) : clockTimer t =
    if t.tac.getLsbD 2 = true ∧ timerPhase t + 1 = timerPeriod t.tac then incTima (uncountedTimer 1 t)
    else uncountedTimer 1 t := by
  have hcount := stepCountdowns_eq t
  have hstep : { stepIrqCd (stepReload t) with sysClocks := (stepIrqCd (stepReload t)).sysClocks + 1 } =
      uncountedTimer 1 t := by
    have htima : (if t.reloadCd = 1 then t.tma else t.tima) = (uncountedTimer 1 t).tima := if_congr (by omega) rfl rfl
    rw [hcount, htima]
    rfl
  have hfalls : (stepIrqCd (stepReload t)).tac.getLsbD 2 = true ∧
      timerPhase (stepIrqCd (stepReload t)) = timerPeriod (stepIrqCd (stepReload t)).tac - 1 ↔
      t.tac.getLsbD 2 = true ∧ timerPhase t + 1 = timerPeriod t.tac := by
    have := sixteen_le_timerPeriod t.tac
    have hphase : timerPhase (stepIrqCd (stepReload t)) = timerPhase t := timerPhase_congr (by rw [hcount]) (by rw [hcount])
    have htac : (stepIrqCd (stepReload t)).tac = t.tac := by rw [hcount]
    rw [hphase, htac]
    exact and_congr_right fun _ => by omega
  exact if_congr ((timerSignal_falls_iff _).trans hfalls) (congrArg incTima hstep) hstep

theorem clockTimer_uncounted {d : Nat} {t : Timer} (h : timerPhase t + d + 1 < timerPeriod t.tac) :
    clockTimer (uncountedTimer d t) = uncountedTimer (d + 1) t := by
  have hphase := (timerPhase_uncountedTimer d t).trans (Nat.mod_eq_of_lt (by omega))
  rw [clockTimer_eq, hphase, uncountedTimer_succ]
  exact if_neg fun hend => h.ne hend.2

theorem clockTimer_periodEnd {d : Nat} {t : Timer} (hon : t.tac.getLsbD 2 = true)
    (h : timerPhase t + d + 1 = timerPeriod t.tac) :
    clockTimer (uncountedTimer d t) = incTima (uncountedTimer (d + 1) t) := by
  have hphase := (timerPhase_uncountedTimer d t).trans (Nat.mod_eq_of_lt (by omega))
  rw [clockTimer_eq, hphase, uncountedTimer_succ]
  exact if_pos ⟨hon, h⟩

theorem tickTimer_uncounted (d : Nat) (s : State) : tickTimer (uncounted d s) =
    { uncounted (d + 1) s with timer := clockTimer (uncountedTimer d s.timer) } := by
  have hone : (uncounted d s).timer.irqCd = 1 ↔ 0 < (uncounted d s).timer.irqCd ∧ (uncounted d s).timer.irqCd ≤ 1 := by
    omega
  rw [← uncounted_succ, tickTimer_eq, if_congr hone rfl rfl]
  rfl

/-- Until a period ends, TIMA does not count (R311). -/
theorem advanceTimer_withinPeriod {d : Nat} {s : State} (h : timerPhase s.timer + d < timerPeriod s.timer.tac) :
    advance .timer d s = uncounted d s := by
  induction d with
  | zero => exact (uncounted_zero s).symm
  | succ d ih =>
    rw [advance_succ', ih (by omega), tickSub, tickTimer_uncounted, clockTimer_uncounted h]
    rfl

/-! ## One period -/

/-- The state of an enabled timer at the end of its period, `d` clocks on: TIMA has counted (R311, R312). -/
def countedOnce (d : Nat) (s : State) : State :=
  { uncounted d s with timer := incTima (uncountedTimer d s.timer) }

theorem advanceTimer_periodEnd {d : Nat} {s : State} (hon : s.timer.tac.getLsbD 2 = true)
    (h : timerPhase s.timer + d = timerPeriod s.timer.tac) : advance .timer d s = countedOnce d s := by
  have hlt := timerPhase_lt s.timer
  cases d with
  | zero => omega
  | succ d =>
    rw [advance_succ', advanceTimer_withinPeriod (by omega), tickSub, tickTimer_uncounted, clockTimer_periodEnd hon h]
    rfl

/-- TIMA counts once where the period ends, `d` clocks on, and not again before the end of the next one. -/
theorem advanceTimer_acrossPeriod {d e : Nat} {s : State} (hon : s.timer.tac.getLsbD 2 = true)
    (hend : timerPhase s.timer + d = timerPeriod s.timer.tac) (he : e < timerPeriod s.timer.tac) :
    advance .timer (d + e) s = uncounted e (countedOnce d s) := by
  obtain ⟨hsys, -, htac⟩ := incTima_keeps (uncountedTimer d s.timer)
  have hphase : timerPhase (countedOnce d s).timer = 0 := by
    refine (timerPhase_congr hsys htac).trans ?_
    rw [timerPhase_uncountedTimer, hend, Nat.mod_self]
  have hperiod : timerPeriod (countedOnce d s).timer.tac = timerPeriod s.timer.tac := congrArg timerPeriod htac
  rw [advance_add, advanceTimer_periodEnd hon hend]
  exact advanceTimer_withinPeriod (by omega)

/-- Settles O34: the period ends with the overflow, whose countdowns of 4 end inside the next period. -/
theorem timerReloadTiming : Obligations.TimerReloadTiming := by
  intro s htima hon hphase hreload hirq
  have hperiod := sixteen_le_timerPeriod s.timer.tac
  generalize hp : timerPeriod s.timer.tac = p at *
  have hacross {e : Nat} (he : e < 16) : advance .timer (p + e) s = uncounted e (countedOnce p s) :=
    advanceTimer_acrossPeriod hon (by rw [timerPhase, hp]; omega) (by omega)
  have htimer : (countedOnce p s).timer = { uncountedTimer p s.timer with tima := 0, reloadCd := 4, irqCd := 4 } :=
    incTima_overflow ((uncountedTimer_tima (.inl hreload)).trans htima)
  have hif : (countedOnce p s).ifReg = s.ifReg := uncounted_ifReg (.inl hirq)
  have hreloadCd : (countedOnce p s).timer.reloadCd = 4 := by rw [htimer]
  have hirqCd : (countedOnce p s).timer.irqCd = 4 := by rw [htimer]
  have hzero {e : Nat} (he : e < 4) : (advance .timer (p + e) s).timer.tima = 0 := by
    rw [hacross (by omega)]
    exact (uncountedTimer_tima (by omega)).trans (by rw [htimer])
  refine ⟨hzero (e := 0) (by decide), hzero (by decide), ?_, ?_, ?_⟩
  · rw [hacross (by decide), uncounted_ifReg (by omega), hif]
  · rw [hacross (by decide)]
    exact (uncountedTimer_tima_reloaded (by omega)).trans (by rw [htimer]; rfl)
  · rw [hacross (by decide), uncounted_ifReg_raised (by omega), hif]

/-- Settles O35: a period ends once within any `P` clocks, whatever the phase. -/
theorem timerCountsOncePerPeriod : Obligations.TimerCountsOncePerPeriod := by
  intro s hon hreload htima
  have hlt := timerPhase_lt s.timer
  obtain ⟨d, hd⟩ := Nat.exists_eq_add_of_le hlt.le
  have hkept : (uncountedTimer d s.timer).tima = s.timer.tima := uncountedTimer_tima (.inl hreload)
  have htimer : (countedOnce d s).timer = { uncountedTimer d s.timer with tima := (uncountedTimer d s.timer).tima + 1 } :=
    incTima_noOverflow (hkept.trans_ne htima)
  have hcd : (countedOnce d s).timer.reloadCd = 0 := by
    rw [htimer]
    exact (congrArg (· - d) hreload).trans (Nat.zero_sub d)
  have hcross : advance .timer (timerPeriod s.timer.tac) s = uncounted (timerPhase s.timer) (countedOnce d s) := by
    rw [hd, Nat.add_comm]
    exact advanceTimer_acrossPeriod hon hd.symm hlt
  rw [hcross]
  exact (uncountedTimer_tima (.inl hcd)).trans (by rw [htimer, hkept])

end Sys2Proof.Machine
end

section
/-! SUPPORT. Writes to DIV, TIMA and TAC (R321, R323, R327, R335). -/

namespace Sys2Proof.Machine

open Sys2Proof.Safety

/-- DIV counts TIMA where its clearing lets the signal fall (R321). -/
theorem writeDiv_eq (s : State) : writeDiv s = { s with
    timer := if timerSignal s.timer = true then incTima { s.timer with sysClocks := 0 }
      else { s.timer with sysClocks := 0 } } := rfl

theorem writeTima_idle {s : State} (h : s.timer.reloadCd = 0) (v : Byte) :
    writeTima v s = { s with timer := { s.timer with tima := v } } := if_pos h

theorem writeTima_cancels {s : State} (h : s.timer.reloadCd ≠ 0) (hp : s.params.timaWriteInReload = .cancel) (v : Byte) :
    writeTima v s = { s with timer := { s.timer with tima := v, reloadCd := 0, irqCd := 0 } } := by
  rw [writeTima, if_neg h, hp]

theorem writeTima_overwritten {s : State} (h : s.timer.reloadCd ≠ 0) (hp : s.params.timaWriteInReload = .overwritten)
    (v : Byte) : writeTima v s = { s with timer := { s.timer with tima := v } } := by
  rw [writeTima, if_neg h, hp]

/-- TAC counts TIMA where the glitch predicate holds (R327). -/
theorem writeTac_eq {s : State} {v : Byte} {glitch : Bool}
    (h : tacGlitch s s.timer.tac (v.extractLsb' 0 3) (timerSignal s.timer)
      (timerSignal { s.timer with tac := v.extractLsb' 0 3 }) = glitch) :
    writeTac v s = { s with
      timer := if glitch then incTima { s.timer with tac := v.extractLsb' 0 3 }
        else { s.timer with tac := v.extractLsb' 0 3 } } := by
  rw [writeTac, h]

theorem tacGlitch_fallingEdge {s : State} (h : s.params.tacGlitch = .fallingEdge) (old new : BitVec 3)
    (before after : Bool) :
    tacGlitch s old new before after = (before && !after) := by
  rw [tacGlitch, h]

theorem tacGlitch_supplied {s : State} (h : s.params.tacGlitch = .supplied) (old new : BitVec 3) (before after : Bool) :
    tacGlitch s old new before after =
      Config.tacWriteGlitch s.params.hwModel old new s.timer.sysClocks before after := by
  rw [tacGlitch, h]

theorem exec_writesDiv {s : State} {i : Instr} {v : Byte} (hs : CpuMay s) (hi : WritesBus i 0xFF04 v) :
    exec i s = .next { writeDiv (current s) with breakFlag := true } := by
  rw [exec_writesRegister hs hi (by decide), ioWrite, ioRegOf_common (r := .div) rfl]

theorem exec_writesTima {s : State} {i : Instr} {v : Byte} (hs : CpuMay s) (hi : WritesBus i 0xFF05 v) :
    exec i s = .next { writeTima v (current s) with breakFlag := true } := by
  rw [exec_writesRegister hs hi (by decide), ioWrite, ioRegOf_common (r := .tima) rfl]

theorem exec_writesTac {s : State} {i : Instr} {v : Byte} (hs : CpuMay s) (hi : WritesBus i 0xFF07 v) :
    exec i s = .next { writeTac v (current s) with breakFlag := true } := by
  rw [exec_writesRegister hs hi (by decide), ioWrite, ioRegOf_common (r := .tac) rfl]

/-- Settles O31: each address names its register, and each case of its handler is one clause. -/
theorem writesOfTheTimerRegisters : Obligations.WritesOfTheTimerRegisters := by
  intro s i a v hs hi
  have hparams := current_params s
  have hedge (hp : s.params.tacGlitch = .fallingEdge) :=
    tacGlitch_fallingEdge ((congrArg Params.tacGlitch hparams).trans hp)
  refine ⟨?divHigh, ?divLow, ?timaIdle, ?timaCancels, ?timaOverwritten, ?tacLow, ?tacFalls, ?tacHigh, ?tacSupplied⟩
  case divHigh =>
    rintro rfl hhigh
    rw [exec_writesDiv hs hi, writeDiv_eq, if_pos hhigh]
  case divLow =>
    rintro rfl hlow
    rw [exec_writesDiv hs hi, writeDiv_eq, if_neg (ne_true_of_eq_false hlow)]
  case timaIdle =>
    rintro rfl hidle
    rw [exec_writesTima hs hi, writeTima_idle hidle]
  case timaCancels =>
    rintro rfl hreload hp
    rw [exec_writesTima hs hi, writeTima_cancels hreload (by rw [hparams, hp])]
  case timaOverwritten =>
    rintro rfl hreload hp
    rw [exec_writesTima hs hi, writeTima_overwritten hreload (by rw [hparams, hp])]
  case tacLow =>
    rintro rfl hp hlow
    rw [exec_writesTac hs hi, writeTac_eq (hedge hp ..), hlow]
    rfl
  case tacFalls =>
    rintro rfl hp hhigh hlow
    rw [exec_writesTac hs hi, writeTac_eq (hedge hp ..), hhigh, hlow]
    rfl
  case tacHigh =>
    rintro rfl hp hhigh hstays
    rw [exec_writesTac hs hi, writeTac_eq (hedge hp ..), hhigh, hstays]
    rfl
  case tacSupplied =>
    rintro glitch rfl hp hglitch
    have hsupplied := tacGlitch_supplied ((congrArg Params.tacGlitch hparams).trans hp) (current s).timer.tac
      (v.extractLsb' 0 3) (timerSignal (current s).timer) (timerSignal { (current s).timer with tac := v.extractLsb' 0 3 })
    obtain ⟨-, htac, -⟩ := current_registers s
    rw [hparams, htac, ← hglitch, ← htac] at hsupplied
    rw [exec_writesTac hs hi, writeTac_eq hsupplied]

end Sys2Proof.Machine
end

section
/-! SUPPORT. The bytes the DMA engines read (R354, R368): where the region decode gives one, and where it is a draw. -/

namespace Sys2Proof.Machine

open Sys2Proof.Safety

/-! ## Reads of a source -/

/-- Below 0xFE00 and outside VRAM a DMA engine reads what the CPU reads (R354). -/
theorem dmaSrcRead_regionValue {a : Addr} (h : a.toNat ≤ 0xFDFF) (hv : ¬ (0x8000 ≤ a.toNat ∧ a.toNat ≤ 0x9FFF)) (s : State) :
    dmaSrcRead s a = regionValue a s := by
  have hregion : regionOf a = .rom0 ∨ regionOf a = .romX ∨ regionOf a = .eram ∨ regionOf a = .wram ∨ regionOf a = .echo := by
    obtain hp | hp | hp | hp | hp : a.toNat ≤ 0x3FFF ∨ (0x4000 ≤ a.toNat ∧ a.toNat ≤ 0x7FFF) ∨
        (0xA000 ≤ a.toNat ∧ a.toNat ≤ 0xBFFF) ∨ (0xC000 ≤ a.toNat ∧ a.toNat ≤ 0xDFFF) ∨
        (0xE000 ≤ a.toNat ∧ a.toNat ≤ 0xFDFF) := by omega
    · simp [regionOf_rom0 hp]
    · simp [regionOf_romX hp]
    · simp [regionOf_eram hp.1 hp.2]
    · simp [regionOf_wram hp]
    · simp [regionOf_echo hp]
  unfold dmaSrcRead regionValue
  obtain hr | hr | hr | hr | hr := hregion <;> rw [hr]

/-- VRAM is read whatever the PPU's mode (R354). -/
theorem dmaSrcRead_vram {a : Addr} (h : 0x8000 ≤ a.toNat ∧ a.toNat ≤ 0x9FFF) (s : State) :
    dmaSrcRead s a = (vramRead s a.toNat, s) := by
  simp only [dmaSrcRead, regionOf_vram h]

/-- From 0xFE00 up a source is a draw (R354). -/
theorem dmaSrcRead_high {a : Addr} (h : 0xFE00 ≤ a.toNat) (s : State) : dmaSrcRead s a = drawByte s := by
  unfold dmaSrcRead
  rw [regionOf_high (by omega), if_neg (by omega)]
  split_ifs <;> rfl

/-- The ROM windows (R93, R94, R450). -/
theorem regionValue_romLow {a : Addr} {s : State} (ha : a.toNat ≤ 0x3FFF)
    (hboot : ¬ (s.bootEnabled = true ∧ overlaid s a.toNat = true)) (hm : ∀ m, s.mapper ≠ .mbc6 m)
    (hbank : romLow s < s.params.romBanks) : regionValue a s = (s.rom.read (romLow s * 0x4000 + a.toNat), s) := by
  rw [regionValue_rom0 ha, rom0Read, if_neg (by simpa using hboot), mapperRead_banked hm, bankedRead, if_pos (by omega),
    romRead_present hbank, romIndex]

theorem regionValue_romX {a : Addr} {s : State} (ha : 0x4000 ≤ a.toNat ∧ a.toNat ≤ 0x7FFF) (hm : ∀ m, s.mapper ≠ .mbc6 m)
    (hbank : romCurr s < s.params.romBanks) :
    regionValue a s = (s.rom.read (romCurr s * 0x4000 + (a.toNat - 0x4000)), s) := by
  rw [regionValue_mapper (.inl ha), mapperRead_banked hm, bankedRead, if_neg (by omega), if_pos (by omega),
    romRead_present hbank, romIndex]

/-- The latched clock register of an MBC3 (R454, log 18). -/
theorem regionValue_clock {a : Addr} {s : State} {b : Byte} (ha : 0xA000 ≤ a.toNat ∧ a.toNat ≤ 0xBFFF)
    (h : ClockByte s.mapper b) : regionValue a s = (b, s) := by
  obtain ⟨m, hm, he, hsel⟩ := h
  have hread : 0x8 ≤ m.select.toNat ∧ m.select.toNat ≤ 0xC ∧ m.latched.read m.select.toNat = b := by
    obtain ⟨hsel, rfl⟩ | ⟨hsel, rfl⟩ | ⟨hsel, rfl⟩ | ⟨hsel, rfl⟩ | ⟨hsel, rfl⟩ := hsel <;> simp [hsel, Rtc.read]
  obtain ⟨hlo, hhi, rfl⟩ := hread
  rw [regionValue_mapper (.inr ha), mapperRead_banked (by simp [hm]), bankedRead, if_neg (by omega), if_neg (by omega)]
  simp [windowRead, cameraSelected, hm, he, hlo, hhi]

/-- Every byte `SourceByte` names is the one the engine reads, and reading it changes nothing (R354). -/
theorem dmaSrcRead_source {s : State} {a : Addr} {b : Byte} (h : SourceByte s a.toNat b) : dmaSrcRead s a = (b, s) := by
  obtain ⟨ha, he, ho, rfl⟩ | ⟨ha, hboot, hm, hbank, rfl⟩ | ⟨hlo, hhi, hm, hbank, rfl⟩ | ⟨hlo, hhi, rfl⟩ |
    ⟨hlo, hhi, heram⟩ | ⟨hlo, hhi, rfl⟩ | ⟨hlo, hhi, rfl⟩ := h
  · rw [dmaSrcRead_regionValue (by omega) (by omega), regionValue_rom0 ha, rom0Read_boot he ho]
  · rw [dmaSrcRead_regionValue (by omega) (by omega), regionValue_romLow ha hboot hm hbank]
  · rw [dmaSrcRead_regionValue (by omega) (by omega), regionValue_romX ⟨hlo, hhi⟩ hm hbank]
  · rw [dmaSrcRead_vram ⟨hlo, hhi⟩, vramRead, vramIndex, vramBank_eq]
  · rw [dmaSrcRead_regionValue (by omega) (by omega)]
    obtain ⟨k, hk, hbank, rfl⟩ | hclock | ⟨m, hm, he, hbank, rfl⟩ | ⟨hnothing, rfl⟩ := heram
    · obtain ⟨hw, hramBank, hfour⟩ := window_ramSelected hk
      rw [regionValue_eram ⟨hlo, hhi⟩ hw, eramRead_some (eramSlot_present hramBank hbank _), hfour]
      rfl
    · exact regionValue_clock ⟨hlo, hhi⟩ hclock
    · obtain ⟨hw, hramBank, hfour⟩ := window_mbc2 hm he
      rw [regionValue_eram ⟨hlo, hhi⟩ hw, eramRead_some (eramSlot_present hramBank hbank _), hfour]
      rfl
    · have hslot : WindowIsRam s ∧ eramSlot s a.toNat = none := by
        obtain ⟨k, hk, hbank⟩ | ⟨m, hm, he, hbank⟩ | hd := hnothing
        · obtain ⟨hw, hramBank, -⟩ := window_ramSelected hk
          exact ⟨hw, eramSlot_absent hramBank hbank _⟩
        · obtain ⟨hw, hramBank, -⟩ := window_mbc2 hm he
          exact ⟨hw, eramSlot_absent hramBank hbank _⟩
        · obtain ⟨hw, hramBank⟩ := window_ramDisabled hd
          exact ⟨hw, eramSlot_disabled hramBank _⟩
      rw [regionValue_eram ⟨hlo, hhi⟩ hslot.1, eramRead_none hslot.2]
  · rw [dmaSrcRead_regionValue (by omega) (by omega), regionValue_wram ⟨hlo, hhi⟩]
  · have hsub : (a - 0x2000).toNat = a.toNat - 0x2000 := toNat_sub_ofNat (n := 0x2000) (by omega)
    rw [dmaSrcRead_regionValue (by omega) (by omega), regionValue_echo ⟨hlo, hhi⟩, regionValue_wram (by omega), hsub]

/-- Work RAM and its echo have a byte at every address (R97, R98). -/
theorem sourceByte_wram (s : State) {p : Nat} (h : 0xC000 ≤ p ∧ p ≤ 0xFDFF) : ∃ b, SourceByte s p b := by
  by_cases hp : p ≤ 0xDFFF
  · exact ⟨_, .inr (.inr (.inr (.inr (.inr (.inl ⟨h.1, hp, rfl⟩)))))⟩
  · exact ⟨_, .inr (.inr (.inr (.inr (.inr (.inr ⟨Nat.lt_of_not_le hp, h.2, rfl⟩)))))⟩

end Sys2Proof.Machine
end

section
/-! SUPPORT. OAM DMA (R350-R356): what stands in OAM after some of a page's bytes are copied, byte by byte and clock by
clock. -/

namespace Sys2Proof.Machine

open Sys2Proof.Safety

/-- `t` is `s` with the first `n` bytes of page `v` copied to OAM, in source order (R351, R355). -/
structure PageCopied (v : Byte) (n : Nat) (s t : State) : Prop where
  frame : t = { s with oam := t.oam, odma := t.odma, draws := t.draws }
  wf : t.oam.wf = true
  src : t.odma.src = v ++ (0 : Byte)
  copied : t.odma.copied = n
  rest : ∀ k, n ≤ k → t.oam.read k = s.oam.read k
  bytes : ∀ k b, k < n → SourceByte s (v.toNat * 256 + k) b → t.oam.read k = b
  drawn : 0xFE ≤ v.toNat → t.draws = s.draws + n ∧ ∀ k, k < n → t.oam.read k = Config.draw (s.draws + k)
  undrawn : 0xC0 ≤ v.toNat → v.toNat ≤ 0xFD → t.draws = s.draws

/-- The address of a byte of a page. -/
theorem toNat_pageAddr (v : Byte) {n : Nat} (hn : n < 256) :
    (v ++ (0 : Byte) + BitVec.ofNat 16 n : Addr).toNat = v.toNat * 256 + n := by
  have happend : (v ++ (0 : Byte)).toNat = v.toNat * 256 := (toNat_append_add v 0).trans (by simp)
  have hv := v.isLt
  rw [BitVec.toNat_add, BitVec.toNat_ofNat, happend]
  omega

/-- The engine's own fields but the page and the count are not in the account. -/
theorem PageCopied.withOdma {v : Byte} {n : Nat} {s t : State} (h : PageCopied v n s t) {o : Odma}
    (hsrc : o.src = t.odma.src) (hcopied : o.copied = t.odma.copied) : PageCopied v n s { t with odma := o } where
  frame := by rw [h.frame]
  wf := h.wf
  src := hsrc.trans h.src
  copied := hcopied.trans h.copied
  rest := h.rest
  bytes := h.bytes
  drawn := h.drawn
  undrawn := h.undrawn

/-- One more byte (R355). -/
theorem odmaCopyOne_page {v : Byte} {n : Nat} {s t : State} (h : PageCopied v n s t) (hn : n < 160) :
    PageCopied v (n + 1) s (odmaCopyOne t) := by
  have hread := dmaSrcRead_frame (odmaNext t) t
  have haddr : (odmaNext t).toNat = v.toNat * 256 + n := by
    rw [odmaNext, h.src, h.copied, toNat_pageAddr v (by omega)]
  have hodma := odmaCopyOne_odma t
  have hdraws : (odmaCopyOne t).draws = (dmaSrcRead t (odmaNext t)).2.draws := rfl
  have hoam : (odmaCopyOne t).oam = t.oam.write n (dmaSrcRead t (odmaNext t)).1 := by
    rw [← h.copied]
    exact congrArg (fun m : Mem => m.write t.odma.copied _) ((congrArg State.oam hread :))
  have hnew : (odmaCopyOne t).oam.read n = (dmaSrcRead t (odmaNext t)).1 := hoam ▸ mem_read_write_same h.wf _ _
  have hother {k : Nat} (hk : k ≠ n) : (odmaCopyOne t).oam.read k = t.oam.read k := hoam ▸ mem_read_write_other _ _ hk
  have hsource {b : Byte} (hb : SourceByte s (v.toNat * 256 + n) b) : dmaSrcRead t (odmaNext t) = (b, t) := by
    refine dmaSrcRead_source ?_
    rw [haddr, h.frame]
    exact hb
  constructor
  case frame => rw [odmaCopyOne_frame t, h.frame]
  case wf => exact odmaCopyOne_oam_wf h.wf
  case src => rw [hodma, h.src]
  case copied => rw [hodma, h.copied]
  case rest => exact fun k hk => (hother (by omega)).trans (h.rest k (by omega))
  case bytes =>
    intro k b hk hb
    by_cases hkn : k = n
    · subst hkn
      rw [hnew, hsource hb]
    · rw [hother hkn, h.bytes k b (by omega) hb]
  case drawn =>
    intro hv
    obtain ⟨hcount, hbytes⟩ := h.drawn hv
    have hdraw : dmaSrcRead t (odmaNext t) = drawByte t := dmaSrcRead_high (by omega) t
    refine ⟨by rw [hdraws, hdraw, drawByte, hcount, Nat.add_assoc], fun k hk => ?_⟩
    by_cases hkn : k = n
    · rw [hkn, hnew, hdraw, drawByte, hcount]
    · rw [hother hkn, hbytes k (by omega)]
  case undrawn =>
    intro hlo hhi
    obtain ⟨b, hb⟩ := sourceByte_wram s (p := v.toNat * 256 + n) (by omega)
    rw [hdraws, hsource hb, h.undrawn hlo hhi]

theorem odmaCopy_page {v : Byte} {n m : Nat} {s t : State} (h : PageCopied v n s t) (hm : n + m ≤ 160) :
    PageCopied v (n + m) s (odmaCopy m t) := by
  induction m generalizing n t with
  | zero => exact h
  | succ m ih =>
    have hrest := ih (odmaCopyOne_page h (by omega)) (by omega)
    rwa [Nat.add_right_comm] at hrest

/-- One clock copies the bytes then due (R355). -/
theorem odmaClock_page {v : Byte} {s t : State} (h : PageCopied v (odmaTarget t.odma.elapsed) s t) :
    PageCopied v (odmaTarget (t.odma.elapsed + 1)) s (odmaClock t) := by
  have hgrows := odmaTarget_succ t.odma.elapsed
  have hbound : odmaTarget (t.odma.elapsed + 1) ≤ 160 := Nat.min_le_left _ _
  have hcopy := odmaCopy_page (m := odmaTarget (t.odma.elapsed + 1) - t.odma.copied)
    (h.withOdma (o := { t.odma with elapsed := t.odma.elapsed + 1 }) rfl rfl) (by rw [h.copied]; omega)
  rw [h.copied, Nat.add_sub_cancel' hgrows, ← h.copied] at hcopy
  unfold odmaClock
  dsimp only
  split
  · exact hcopy.withOdma rfl rfl
  · exact hcopy

/-- After `e` clocks of a transfer started by the register the bytes due are copied (R351, R355). -/
theorem advanceDma_page {s : State} (hwf : s.oam.wf = true) (v : Byte) {e : Nat} (he : e ≤ 644) :
    PageCopied v (odmaTarget e) s (advance .dma e (writeDmaReg v s)) ∧
    (advance .dma e (writeDmaReg v s)).odma.elapsed = e ∧
    ((advance .dma e (writeDmaReg v s)).odma.active = true ↔ e < 644) ∧
    OdmaRanges (advance .dma e (writeDmaReg v s)).odma := by
  induction e with
  | zero =>
    have hpage : PageCopied v (odmaTarget 0) s (writeDmaReg v s) :=
      ⟨rfl, hwf, rfl, rfl, fun _ _ => rfl, fun _ _ hk => absurd hk (Nat.not_lt_zero _),
        fun _ => ⟨rfl, fun _ hk => absurd hk (Nat.not_lt_zero _)⟩, fun _ _ => rfl⟩
    have hranges : OdmaRanges (writeDmaReg v s).odma :=
      ⟨Nat.zero_le _, Nat.zero_le _, fun _ => ⟨Nat.succ_pos _, hpage.copied⟩⟩
    exact ⟨hpage, rfl, ⟨fun _ => Nat.succ_pos _, fun _ => rfl⟩, hranges⟩
  | succ e ih =>
    obtain ⟨hpage, helapsed, hactive, hranges⟩ := ih (by omega)
    rw [advance_succ']
    generalize advance .dma e (writeDmaReg v s) = t at *
    have hon : t.odma.active = true := hactive.2 (by omega)
    have htick : tickSub .dma t = odmaClock t := if_pos hon
    have hodma := odmaClock_odma hranges hon
    subst helapsed
    rw [htick]
    exact ⟨odmaClock_page hpage, by rw [hodma], by rw [hodma]; exact decide_eq_true_iff, odmaClock_ranges hranges hon⟩

/-- Settles O36: by the account of the bytes copied after `e` clocks. -/
theorem oamDmaCopiesEveryByteOnce : Obligations.OamDmaCopiesEveryByteOnce := by
  rintro s t v e n hwf he rfl rfl
  obtain ⟨hpage, -, hactive, -⟩ := advanceDma_page hwf v he
  exact ⟨hpage.copied, hactive, hpage.rest, hpage.bytes, hpage.drawn, hpage.undrawn⟩

end Sys2Proof.Machine
end

section
/-! SUPPORT. One block of GDMA and HDMA (R361-R363, R368): what stands in VRAM after some of its bytes are copied, and the
writes of HDMA5 that start, restart and cancel a transfer. -/

namespace Sys2Proof.Machine

open Sys2Proof.Safety

/-! ## The bytes of a block -/

/-- Where byte `k` of a block lands: bank VBK, wrapping inside its 8 KiB (R368). -/
theorem hdmaTarget_eq (s : State) (k : Nat) :
    hdmaTarget s k = s.vbk.toNat * 0x2000 + (s.hdma.dst.toNat + k) % 0x2000 := by
  have hmask (x : Addr) : (x &&& 0x1FFF#16).toNat = x.toNat % 0x2000 := by
    rw [BitVec.toNat_and]
    exact Nat.and_two_pow_sub_one_eq_mod x.toNat 13
  have hdst := s.hdma.dst.isLt
  unfold hdmaTarget vramIndex
  rw [hmask, BitVec.toNat_add, BitVec.toNat_sub, BitVec.toNat_ofNat, BitVec.toNat_ofNat]
  omega

/-- The 16 bytes of a block land in 16 places. -/
theorem hdmaTarget_ne (s : State) {j k : Nat} (hj : j < 16) (hk : k < 16) (h : j ≠ k) : hdmaTarget s j ≠ hdmaTarget s k := by
  rw [hdmaTarget_eq, hdmaTarget_eq]
  omega

/-- The sources that are draws to a block (R368). -/
def BlockDraw (p : Nat) : Prop := (0x8000 ≤ p ∧ p ≤ 0x9FFF) ∨ 0xFE00 ≤ p

theorem hdmaSrcRead_draw {p : Nat} (h : BlockDraw p) (s : State) : hdmaSrcRead s p = drawByte s := if_pos h.symm

theorem hdmaSrcRead_source {s : State} {p : Nat} {b : Byte} (h : SourceByte s p b) (hv : ¬ (0x8000 ≤ p ∧ p ≤ 0x9FFF)) :
    hdmaSrcRead s p = (b, s) := by
  have hp : p ≤ 0xFDFF := by
    unfold SourceByte at h
    omega
  have haddr : (BitVec.ofNat 16 p : Addr).toNat = p := by
    rw [BitVec.toNat_ofNat]
    omega
  rw [hdmaSrcRead, if_neg (by omega)]
  exact dmaSrcRead_source (haddr.symm ▸ h)

/-- A source outside VRAM does not depend on VRAM or the draws. -/
theorem sourceByte_vram {s : State} {p : Nat} {b : Byte} (m : Mem) (d : Nat) (hv : ¬ (0x8000 ≤ p ∧ p ≤ 0x9FFF))
    (h : SourceByte s p b) : SourceByte { s with vram := m, draws := d } p b := by
  obtain h | h | h | ⟨hlo, hhi, -⟩ | h := h
  · exact .inl h
  · exact .inr (.inl h)
  · exact .inr (.inr (.inl h))
  · exact absurd ⟨hlo, hhi⟩ hv
  · exact .inr (.inr (.inr (.inr h)))

/-- `t` is `s` with the first `n` bytes of a block copied to VRAM, in source order (R368). -/
structure BlockCopied (n : Nat) (s t : State) : Prop where
  frame : t = { s with vram := t.vram, draws := t.draws }
  wf : t.vram.wf = true
  rest : ∀ j, (∀ k, k < n → j ≠ hdmaTarget s k) → t.vram.read j = s.vram.read j
  bytes : ∀ k b, k < n → SourceByte s (s.hdma.src.toNat + k) b →
    ¬ (0x8000 ≤ s.hdma.src.toNat + k ∧ s.hdma.src.toNat + k ≤ 0x9FFF) → t.vram.read (hdmaTarget s k) = b
  drawn : (∀ k, k < n → BlockDraw (s.hdma.src.toNat + k)) →
    t.draws = s.draws + n ∧ ∀ k, k < n → t.vram.read (hdmaTarget s k) = Config.draw (s.draws + k)
  undrawn : 0xC000 ≤ s.hdma.src.toNat → s.hdma.src.toNat + n ≤ 0xFE00 → t.draws = s.draws

/-- One more byte (R368). -/
theorem copyBlockByte_block {n : Nat} {s t : State} (h : BlockCopied n s t) (hn : n < 16) :
    BlockCopied (n + 1) s (copyBlockByte n t) := by
  have hsrc : t.hdma.src = s.hdma.src := (congrArg (fun u : State => u.hdma.src) h.frame :)
  have htarget : hdmaTarget t n = hdmaTarget s n := by
    rw [h.frame]
    rfl
  have hread := hdmaSrcRead_frame (s.hdma.src.toNat + n) t
  have hcopy : copyBlockByte n t = { t with
      vram := t.vram.write (hdmaTarget s n) (hdmaSrcRead t (s.hdma.src.toNat + n)).1
      draws := (hdmaSrcRead t (s.hdma.src.toNat + n)).2.draws } := by
    rw [copyBlockByte, hsrc, htarget, hread]
  have hnew : (copyBlockByte n t).vram.read (hdmaTarget s n) = (hdmaSrcRead t (s.hdma.src.toNat + n)).1 := by
    rw [hcopy]
    exact mem_read_write_same h.wf _ _
  have hother {j : Nat} (hj : j ≠ hdmaTarget s n) : (copyBlockByte n t).vram.read j = t.vram.read j := by
    rw [hcopy]
    exact mem_read_write_other _ _ hj
  have hdraws : (copyBlockByte n t).draws = (hdmaSrcRead t (s.hdma.src.toNat + n)).2.draws := by rw [hcopy]
  have hsource {b : Byte} (hb : SourceByte s (s.hdma.src.toNat + n) b)
      (hv : ¬ (0x8000 ≤ s.hdma.src.toNat + n ∧ s.hdma.src.toNat + n ≤ 0x9FFF)) :
      hdmaSrcRead t (s.hdma.src.toNat + n) = (b, t) :=
    hdmaSrcRead_source (h.frame ▸ sourceByte_vram t.vram t.draws hv hb) hv
  constructor
  case frame => rw [copyBlockByte_frame, h.frame]
  case wf =>
    rw [hcopy]
    exact mem_wf_write h.wf _ _
  case rest =>
    exact fun j hj => (hother (hj n (Nat.lt_succ_self n))).trans (h.rest j fun k hk => hj k (by omega))
  case bytes =>
    intro k b hk hb hv
    by_cases hkn : k = n
    · subst hkn
      rw [hnew, hsource hb hv]
    · rw [hother (hdmaTarget_ne s (by omega) hn hkn), h.bytes k b (by omega) hb hv]
  case drawn =>
    intro hall
    obtain ⟨hcount, hbytes⟩ := h.drawn fun k hk => hall k (by omega)
    have hdraw : hdmaSrcRead t (s.hdma.src.toNat + n) = drawByte t := hdmaSrcRead_draw (hall n (Nat.lt_succ_self n)) t
    refine ⟨by rw [hdraws, hdraw, drawByte, hcount, Nat.add_assoc], fun k hk => ?_⟩
    by_cases hkn : k = n
    · rw [hkn, hnew, hdraw, drawByte, hcount]
    · rw [hother (hdmaTarget_ne s (by omega) hn hkn), hbytes k (by omega)]
  case undrawn =>
    intro hlo hhi
    obtain ⟨b, hb⟩ := sourceByte_wram s (p := s.hdma.src.toNat + n) (by omega)
    rw [hdraws, hsource hb (by omega), h.undrawn hlo (by omega)]

theorem copyBytes_block {s : State} (hwf : s.vram.wf = true) {n : Nat} (hn : n ≤ 16) :
    BlockCopied n s ((List.range n).foldl (fun s i => copyBlockByte i s) s) := by
  induction n with
  | zero =>
    exact ⟨rfl, hwf, fun _ _ => rfl, fun _ _ hk => absurd hk (Nat.not_lt_zero _),
      fun _ => ⟨rfl, fun _ hk => absurd hk (Nat.not_lt_zero _)⟩, fun _ _ => rfl⟩
  | succ n ih =>
    rw [List.range_succ, List.foldl_append]
    exact copyBlockByte_block (ih (by omega)) (by omega)

/-- A block leaves what its bytes leave, but for the pointers. -/
theorem copyBlock_bytes (s : State) :
    (copyBlock s).vram = ((List.range 16).foldl (fun s i => copyBlockByte i s) s).vram ∧
    (copyBlock s).draws = ((List.range 16).foldl (fun s i => copyBlockByte i s) s).draws := by
  constructor <;> rw [copyBlock]

/-! ## Writes of HDMA5 -/

theorem hdmaLength_eq (v : Byte) : ((v.extractLsb' 0 7).toNat + 1) * 16 = (v.toNat % 128 + 1) * 16 := by
  rw [BitVec.extractLsb'_toNat, Nat.shiftRight_zero]

/-- A write of HDMA5 on the CGB family is the register's handler (R361). -/
theorem exec_writesHdma5 {s : State} {i : Instr} {v : Byte} (hs : CpuMay s) (hi : WritesBus i 0xFF55 v)
    (hf : s.family = .cgb) : exec i s = .next { writeHdma5 v (current s) with breakFlag := true } := by
  rw [exec_writesRegister hs hi (by decide), ioWrite, ioRegOf_cgb (r := .hdma5) ((current_family s).trans hf) rfl rfl]

/-- An HBlank transfer before its first block (R361): the pointers from their registers, the length from the byte written. -/
def hblankStarted (v : Byte) (s : State) : State :=
  { s with hdma := { s.hdma with
      mode := .hblank, src := s.hdma.srcReg, dst := s.hdma.dstReg
      remaining := (v.toNat % 128 + 1) * 16, copyLeft := 0, prepLeft := 0, lastLy := none } }

/-- Bit 7 set starts an HBlank transfer, whether or not one runs (R361, R362); with the screen off its first block is copied
at once. -/
theorem writeHdma5_hblank {s : State} {v : Byte} (hm : s.hdma.mode ≠ .general) (hv : v.getLsbD 7 = true) :
    writeHdma5 v s = if s.ppu.view.lcdOn then hblankStarted v s else finishIfDone (copyBlock (hblankStarted v s)) := by
  have hstart : writeHdma5 v s = startHdma v s := by
    unfold writeHdma5
    cases hmode : s.hdma.mode with
    | none => rfl
    | hblank => exact if_pos hv
    | general => exact absurd hmode hm
  rw [hstart, startHdma, if_pos hv, hdmaLength_eq]
  rfl

/-- Bit 7 clear starts a general transfer where none runs (R361). -/
theorem writeHdma5_general {s : State} {v : Byte} (hm : s.hdma.mode = .none) (hv : v.getLsbD 7 = false) :
    writeHdma5 v s = { s with hdma := { s.hdma with
      mode := .general, src := s.hdma.srcReg, dst := s.hdma.dstReg
      remaining := (v.toNat % 128 + 1) * 16, copyLeft := 0, prepLeft := s.params.hdmaPrepClocks } } := by
  rw [writeHdma5, hm]
  dsimp only
  rw [startHdma, if_neg (ne_true_of_eq_false hv), hdmaLength_eq]

/-- It cancels an HBlank transfer (R363). -/
theorem writeHdma5_cancel {s : State} {v : Byte} (hm : s.hdma.mode = .hblank) (hv : v.getLsbD 7 = false) :
    writeHdma5 v s = { s with hdma := { s.hdma with mode := .none } } := by
  rw [writeHdma5, hm]
  exact if_neg (ne_true_of_eq_false hv)

/-- Settles O37: each case of the handler is one clause. -/
theorem hdma5StartsAndCancels : Obligations.Hdma5StartsAndCancels := by
  intro s i v hs hi hf
  rw [exec_writesHdma5 hs hi hf]
  refine ⟨fun hm hv => ?general, fun hv hon => ?hblank, fun hm hv => ?cancel⟩
  case general => rw [writeHdma5_general hm hv, ← current_params s]
  case hblank =>
    rw [writeHdma5_hblank (cpuMay_current hs).2 hv, hon]
    rfl
  case cancel => rw [writeHdma5_cancel hm hv]

/-- An HBlank transfer started with the screen off has copied its first block, and is over if that was its only one (R361,
R369). -/
theorem exec_startsHblankScreenOff {s : State} {i : Instr} {v : Byte} (hs : CpuMay s) (hi : WritesBus i 0xFF55 v)
    (hf : s.family = .cgb) (hv : v.getLsbD 7 = true) (hoff : (current s).ppu.view.lcdOn = false) :
    exec i s = .next { copyBlock (hblankStarted v (current s)) with
      hdma := { (copyBlock (hblankStarted v (current s))).hdma with
        mode := if v.toNat % 128 = 0 then .none else .hblank }
      breakFlag := true } := by
  rw [exec_writesHdma5 hs hi hf, writeHdma5_hblank (cpuMay_current hs).2 hv, hoff, if_neg Bool.false_ne_true,
    finishIfDone_frame, finishIfDone_hdma]
  have hlast : (copyBlock (hblankStarted v (current s))).hdma.remaining = 0 ↔ v.toNat % 128 = 0 := by
    rw [copyBlock_hdma]
    dsimp only [hblankStarted]
    omega
  have hmode : (copyBlock (hblankStarted v (current s))).hdma.mode = .hblank := by
    rw [copyBlock_hdma]
    rfl
  simp only [hlast, hmode]

end Sys2Proof.Machine
end

section
/-! SUPPORT. DMAEXEC (R370): the preparation it pays, the blocks it copies, and a budget spent in two parts. -/

namespace Sys2Proof.Machine

open Sys2Proof.Safety

/-! ## One block -/

theorem copyBlock_ref (s : State) : (copyBlock s).ref = s.ref := (congrArg State.ref (copyBlock_frame s) :)

/-- A block costs what the speed says, before and after it. -/
theorem gdmaBlock_eq (s : State) : gdmaBlock s = addClock (gdmaBlockClocks s) (copyBlock (reconcileAll s)) := by
  have hclocks : gdmaBlockClocks (copyBlock (reconcileAll s)) = gdmaBlockClocks s := by
    rw [copyBlock_frame]
    simp only [gdmaBlockClocks, reconcileAll_keeps]
  rw [gdmaBlock, hclocks]

theorem gdmaBlock_room {s : State} (h : s.ref + gdmaBlockClocks s ≤ 0x7FFFFFFF) :
    gdmaBlock s = { copyBlock (reconcileAll s) with ref := s.ref + gdmaBlockClocks s } := by
  have href : (copyBlock (reconcileAll s)).ref = s.ref := (copyBlock_ref _).trans (reconcileAll_ref s)
  rw [gdmaBlock_eq, addClock_room (by rwa [href]), href]

/-- A block without a fault has moved the clock by its cost. -/
theorem gdmaBlock_paid {s : State} (h : (gdmaBlock s).fault = none) : (gdmaBlock s).ref = s.ref + gdmaBlockClocks s := by
  rw [gdmaBlock_eq] at h ⊢
  rw [(addClock_unfaulted h).2]
  exact congrArg (· + gdmaBlockClocks s) ((copyBlock_ref _).trans (reconcileAll_ref s))

/-- A block of general DMA leaves the preparation. -/
theorem gdmaBlock_prepLeft {s : State} (hm : s.hdma.mode = .general) : (gdmaBlock s).hdma.prepLeft = s.hdma.prepLeft := by
  have hadd (n : Nat) (u : State) : (addClock n u).hdma = u.hdma := (congrArg State.hdma (addClock_frame n u)).trans rfl
  rw [gdmaBlock_eq, hadd, copyBlock_hdma, reconcileAll_hdma (by rw [hm]; exact nofun)]

/-! ## The block loop -/

/-- A pass of the block loop that raises no fault. -/
theorem gdmaLoop_succ {start c k : Nat} {s : State} (h : (gdmaBlock s).fault = none) : gdmaLoop start c (k + 1) s =
    if (gdmaBlock s).hdma.remaining = 0 then
      { gdmaBlock s with hdma := { (gdmaBlock s).hdma with mode := .none } }
    else if c ≤ (gdmaBlock s).ref - start then gdmaBlock s
    else gdmaLoop start c k (gdmaBlock s) := unlessFaulted_ready h

theorem gdmaLoop_faulted {start c k : Nat} {s : State} {f : Fault} (h : (gdmaBlock s).fault = some f) :
    gdmaLoop start c (k + 1) s = gdmaBlock s := unlessFaulted_faulted h

/-- More passes than the bytes left make no difference. -/
theorem gdmaLoop_passes {start c k m : Nat} {s : State} (hm : s.hdma.mode = .general) (hk : s.hdma.remaining < k)
    (hkm : s.hdma.remaining < m) : gdmaLoop start c k s = gdmaLoop start c m s := by
  induction k generalizing m s with
  | zero => exact absurd hk (Nat.not_lt_zero _)
  | succ k ih =>
    obtain ⟨m, rfl⟩ := Nat.exists_eq_succ_of_ne_zero (Nat.ne_zero_of_lt hkm)
    cases hf : (gdmaBlock s).fault with
    | some f => rw [gdmaLoop_faulted hf, gdmaLoop_faulted hf]
    | none =>
      obtain ⟨hmode, hremaining⟩ := gdmaBlock_hdma hm
      rw [gdmaLoop_succ hf, gdmaLoop_succ hf]
      split_ifs with hover hbudget
      · rfl
      · rfl
      · exact ih hmode (by omega) (by omega)

/-- A budget counted from a later clock is what is left of it. -/
theorem gdmaLoop_laterStart {start c d k : Nat} {s : State} (h : start + c ≤ s.ref) :
    gdmaLoop start (c + d) k s = gdmaLoop (start + c) d k s := by
  induction k generalizing s with
  | zero => rfl
  | succ k ih =>
    have hforward := (gdmaBlock_onward s).ref
    cases hf : (gdmaBlock s).fault with
    | some f => rw [gdmaLoop_faulted hf, gdmaLoop_faulted hf]
    | none =>
      have hbudget : c + d ≤ (gdmaBlock s).ref - start ↔ d ≤ (gdmaBlock s).ref - (start + c) := by omega
      rw [gdmaLoop_succ hf, gdmaLoop_succ hf, ih (by omega)]
      simp only [hbudget]

/-! ## A run of general DMA -/

/-- After the preparation a run is its blocks. -/
theorem gdmaRun_prepared {s : State} (h : s.hdma.prepLeft = 0) (c : Nat) :
    gdmaRun c s = gdmaLoop s.ref c (s.hdma.remaining + 1) s := if_neg (by omega)

/-- Before it, a run pays of the preparation and goes on with what is left of the budget. -/
theorem gdmaRun_preparing {c : Nat} {s : State} (h : 0 < s.hdma.prepLeft) (hf : (payPrep c s).fault = none) :
    gdmaRun c s = if c ≤ (payPrep c s).ref - s.ref then payPrep c s
      else gdmaLoop s.ref c ((payPrep c s).hdma.remaining + 1) (payPrep c s) := by
  rw [gdmaRun, if_pos h]
  exact unlessFaulted_ready hf

/-- The state in which `n` clocks of the preparation are paid. -/
def prepPaid (n : Nat) (s : State) : State :=
  { s with ref := s.ref + n, hdma := { s.hdma with prepLeft := s.hdma.prepLeft - n } }

/-- A budget within the preparation pays it and copies nothing. -/
theorem gdmaRun_withinPrep {c n : Nat} {s : State} (hn : n = max c 1) (hprep : n ≤ s.hdma.prepLeft)
    (hroom : s.ref + n ≤ 0x7FFFFFFF) (hs : s.fault = none) : gdmaRun c s = prepPaid n s := by
  have hclocks : prepClocks c s = n := by rw [prepClocks, ← hn, Nat.min_eq_right hprep]
  have hpay : payPrep c s = prepPaid n s := by
    rw [payPrep, hclocks]
    exact addClock_room (s := { s with hdma := { s.hdma with prepLeft := s.hdma.prepLeft - n } }) hroom
  rw [gdmaRun_preparing (by omega) (by rwa [hpay]), hpay]
  exact if_pos (by dsimp only [prepPaid]; omega)

/-- A budget within one block copies that block, and ends the transfer with the last. -/
theorem gdmaRun_withinBlock {c : Nat} {s : State} (hs : s.fault = none) (hm : s.hdma.mode = .general)
    (hprep : s.hdma.prepLeft = 0) (hc : c ≤ gdmaBlockClocks s) (hroom : s.ref + gdmaBlockClocks s ≤ 0x7FFFFFFF) :
    gdmaRun c s = { copyBlock (reconcileAll s) with
      ref := s.ref + gdmaBlockClocks s
      hdma := { (copyBlock (reconcileAll s)).hdma with
        mode := if s.hdma.remaining ≤ 16 then .none else (copyBlock (reconcileAll s)).hdma.mode } } := by
  have hblock := gdmaBlock_room hroom
  have hfault : (gdmaBlock s).fault = none := by
    rw [hblock, copyBlock_frame]
    simp only [reconcileAll_keeps, hs]
  have hremaining : (gdmaBlock s).hdma.remaining = 0 ↔ s.hdma.remaining ≤ 16 := by
    rw [(gdmaBlock_hdma hm).2]
    omega
  rw [gdmaRun_prepared hprep, gdmaLoop_succ hfault]
  simp only [hremaining]
  rw [hblock]
  by_cases hlast : s.hdma.remaining ≤ 16
  · rw [if_pos hlast, if_pos hlast]
  · rw [if_neg hlast, if_neg hlast, if_pos (by dsimp only; omega)]

/-- A budget that goes on after the preparation is the preparation's and then the rest. -/
theorem gdmaRun_pastPrep {c d : Nat} {s : State} (hc : 0 < c) (hd : 0 < d) (hprep : c = s.hdma.prepLeft)
    (hf : (gdmaRun c s).fault = none) :
    gdmaRun c s = prepPaid c s ∧ gdmaRun (c + d) s = gdmaRun d (prepPaid c s) := by
  have hclocks : prepClocks (c + d) s = c ∧ prepClocks c s = c := by
    unfold prepClocks
    omega
  have hpaid : (payPrep c s).fault = none := by
    rw [gdmaRun, if_pos (by omega)] at hf
    exact (unlessFaulted_unfaulted hf).1
  have hpay : payPrep c s = prepPaid c s := by
    refine (addClock_unfaulted hpaid).2.trans ?_
    rw [hclocks.2]
    rfl
  have hpayMore : payPrep (c + d) s = prepPaid c s := by rw [← hpay, payPrep, hclocks.1, payPrep, hclocks.2]
  rw [gdmaRun_preparing (by omega) hpaid, gdmaRun_preparing (by omega) (by rwa [hpayMore, ← hpay]), hpay, hpayMore,
    if_pos (by dsimp only [prepPaid]; omega), if_neg (by dsimp only [prepPaid]; omega)]
  refine ⟨rfl, ?_⟩
  rw [gdmaLoop_laterStart (by exact le_rfl), gdmaRun_prepared (by dsimp only [prepPaid]; omega)]
  rfl

/-- A budget that goes on after one block of several is that block's and then the rest. -/
theorem gdmaRun_pastBlock {c d : Nat} {s : State} (hd : 0 < d) (hm : s.hdma.mode = .general)
    (hprep : s.hdma.prepLeft = 0) (hc : c = gdmaBlockClocks s) (hmore : 16 < s.hdma.remaining)
    (hf : (gdmaRun c s).fault = none) :
    (gdmaBlock s).ref = s.ref + c ∧ gdmaRun c s = gdmaBlock s ∧ gdmaRun (c + d) s = gdmaRun d (gdmaBlock s) := by
  obtain ⟨hmode, hremaining⟩ := gdmaBlock_hdma hm
  rw [gdmaRun_prepared hprep] at hf ⊢
  have hblock : (gdmaBlock s).fault = none := (unlessFaulted_unfaulted hf).1
  have href : (gdmaBlock s).ref = s.ref + c := by rw [gdmaBlock_paid hblock, hc]
  rw [gdmaRun_prepared hprep, gdmaLoop_succ hblock, gdmaLoop_succ hblock, if_neg (by omega), if_pos (by omega),
    if_neg (by omega), if_neg (by omega)]
  refine ⟨href, rfl, ?_⟩
  rw [gdmaLoop_laterStart (by omega), gdmaRun_prepared ((gdmaBlock_prepLeft hm).trans hprep), href]
  exact gdmaLoop_passes hmode (by omega) (Nat.lt_succ_self _)

/-- A run that stops at the end of the preparation, or of one block of several, leaves the rest of the budget to a run of its
own. -/
theorem gdmaRun_add {c d : Nat} {s : State} (hd : 1 ≤ d) (hm : s.hdma.mode = .general)
    (hc : (1 ≤ c ∧ c = s.hdma.prepLeft) ∨ (s.hdma.prepLeft = 0 ∧ c = gdmaBlockClocks s ∧ 16 < s.hdma.remaining))
    (hf : (gdmaRun c s).fault = none) :
    (gdmaRun c s).ref = s.ref + c ∧ (gdmaRun c s).hdma.mode = .general ∧
      gdmaRun (c + d) s = gdmaRun d (gdmaRun c s) := by
  obtain ⟨hpos, hprep⟩ | ⟨hprep, hclocks, hmore⟩ := hc
  · obtain ⟨hfirst, hrest⟩ := gdmaRun_pastPrep hpos hd hprep hf
    exact ⟨by rw [hfirst]; rfl, by rw [hfirst]; exact hm, by rw [hrest, hfirst]⟩
  · obtain ⟨href, hfirst, hrest⟩ := gdmaRun_pastBlock hd hm hprep hclocks hmore hf
    exact ⟨by rw [hfirst, href], by rw [hfirst, (gdmaBlock_hdma hm).1], by rw [hrest, hfirst]⟩

/-! ## The command -/

theorem exec_dmaexec {s : State} (hs : Ready s) (c : Count) :
    exec (.dmaexec c) s = .next (dmaExec c.toNat (begun s)) := by
  have hexec : exec (.dmaexec c) s = .next (command (dmaExec c.toNat) s) := rfl
  rw [hexec, command_ready hs]

/-- DMAEXEC without a general DMA (R370). -/
theorem exec_dmaexec_idle {s : State} (hs : Ready s) (hm : s.hdma.mode ≠ .general) (c : Count) :
    exec (.dmaexec c) s = .next { s with response := some (.clocks 0) } := by
  have hidle : dmaExec c.toNat (begun s) = respond (.clocks 0) (begun s) := by
    unfold dmaExec
    cases hmode : s.hdma.mode with
    | general => exact absurd hmode hm
    | none | hblank => rfl
  rw [exec_dmaexec hs, hidle, respond_ready (s := begun s) hs]

/-- DMAEXEC of a general DMA whose run raises no fault answers the run's clocks (R370). -/
theorem exec_dmaexec_general {s : State} (hs : Ready s) (hm : s.hdma.mode = .general) {c : Count}
    (hf : (gdmaRun c.toNat s).fault = none) : exec (.dmaexec c) s =
      .next { gdmaRun c.toNat s with response := some (.clocks ((gdmaRun c.toNat s).ref - s.ref)) } := by
  rw [exec_dmaexec hs, dmaExec_general (s := begun s) hm, gdmaRun_begun, respond_ready (s := begun _) hf]

/-- A DMAEXEC of a general DMA that left no fault was a run without a fault, and left its state, but for the port. -/
theorem exec_dmaexec_unfaulted {s t : State} (hs : Ready s) (hm : s.hdma.mode = .general) {c : Count}
    (h : exec (.dmaexec c) s = .next t) (hf : t.fault = none) :
    (gdmaRun c.toNat s).fault = none ∧ begun t = begun (gdmaRun c.toNat s) := by
  have hrun : (gdmaRun c.toNat s).fault = none := by
    rw [exec_dmaexec hs, dmaExec_general (s := begun s) hm, gdmaRun_begun] at h
    obtain rfl := Host.Outcome.next.inj h
    rwa [respond_fault] at hf
  obtain rfl := Host.Outcome.next.inj ((exec_dmaexec_general hs hm hrun).symm.trans h)
  exact ⟨hrun, rfl⟩

/-- Settles O40: a run within the preparation, and a run within one block, from the state with the port empty. -/
theorem dmaexecPaysAndCopies : Obligations.DmaexecPaysAndCopies := by
  intro s c hs
  refine ⟨fun hm => exec_dmaexec_idle hs hm c, fun n hn hm hprep hroom => ?prep, fun hm hprep hc hroom => ?block⟩
  case prep =>
    have hrun := gdmaRun_withinPrep hn hprep hroom hs
    rw [exec_dmaexec_general hs hm (hrun ▸ hs), hrun]
    simp only [prepPaid, Nat.add_sub_cancel_left]
  case block =>
    have hrun := gdmaRun_withinBlock hs hm hprep hc hroom
    have hcopy : copyBlock (current s) = begun (copyBlock (reconcileAll s)) := by rw [current_eq, copyBlock_begun]
    have hfault : (gdmaRun c.toNat s).fault = none := by
      rw [hrun, copyBlock_frame]
      simp only [reconcileAll_keeps, hs]
    refine ⟨_, exec_dmaexec_general hs hm hfault, ?_, fun hlast => ?_, fun hmore => ?_⟩
    · rw [hrun, hcopy, Nat.add_sub_cancel_left]
    · rw [hrun, hcopy, if_pos hlast]
    · rw [hrun, hcopy, if_neg (by omega)]

/-! ## The blocks of a transfer -/

/-- Settles O38: by the account of a block's bytes, the handler of HDMA5, and a run's two parts. -/
theorem blocksMoveSixteenBytesAndBudgetsAddUp : Obligations.BlocksMoveSixteenBytesAndBudgetsAddUp := by
  refine ⟨copyBlock_hdma, fun s hwf => ?bytes, fun s u i v hs hi hf hv hoff hu => ?screenOff,
    fun s t u c c1 c2 hs hm hpos hsum hfirst ht htf hu huf => ?budgets⟩
  case bytes =>
    have hblock := copyBytes_block hwf (n := 16) le_rfl
    obtain ⟨hvram, hdraws⟩ := copyBlock_bytes s
    simp only [← hdmaTarget_eq, hvram, hdraws]
    refine ⟨hblock.bytes, fun hdraw => hblock.drawn fun k hk => ?_, fun hlo hhi => hblock.undrawn hlo (by omega),
      hblock.rest⟩
    unfold BlockDraw
    omega
  case screenOff =>
    have hstarted : u = copyBlock (hblankStarted v (current s)) := hu
    rw [hstarted]
    exact exec_startsHblankScreenOff hs hi hf hv hoff
  case budgets =>
    obtain ⟨hrun, hbegun⟩ := exec_dmaexec_unfaulted hs hm ht htf
    obtain ⟨href, hmode, hadd⟩ := gdmaRun_add hpos hm hfirst hrun
    have htref : t.ref = (gdmaRun c1.toNat s).ref := (congrArg State.ref hbegun :)
    have htmode : t.hdma.mode = (gdmaRun c1.toNat s).hdma.mode :=
      (congrArg (fun v : State => v.hdma.mode) hbegun :)
    obtain ⟨-, hrest⟩ := exec_dmaexec_unfaulted htf (htmode.trans hmode) hu huf
    have hwhole : begun u = begun (gdmaRun c.toNat s) := by
      rw [hrest, ← gdmaRun_begun, hbegun, gdmaRun_begun, ← hadd, hsum]
    have hfault : (gdmaRun c.toNat s).fault = none := (congrArg State.fault hwhole).symm.trans huf
    refine ⟨htref.trans href, ?_⟩
    rw [exec_dmaexec_general hs hm hfault]
    exact congrArg (fun v : State => Host.Outcome.next { v with response := some (.clocks (v.ref - s.ref)) }) hwhole.symm

end Sys2Proof.Machine
end

section
/-! SUPPORT. What general DMA leaves to the CPU (R374). -/

namespace Sys2Proof.Machine

open Sys2Proof.Safety

/-- An access of the CPU raises F_CPU_DURING_GDMA while general DMA owns it (R374). -/
theorem unlessGdma_general {s : State} (hs : Ready s) (hm : s.hdma.mode = .general) (f : State → State) :
    unlessGdma f s = { s with fault := some .cpuDuringGdma } := by
  rw [unlessGdma, hm]
  exact raise_ready hs

/-- A command that is an access of the CPU does nothing else then. -/
theorem command_unlessGdma {s : State} (hs : Ready s) (hm : s.hdma.mode = .general) (f : State → State) :
    command (unlessGdma f) s = { s with fault := some .cpuDuringGdma, response := none } := by
  rw [command_ready hs, unlessGdma_general (s := begun s) hs hm]

/-- Settles O9: the bus commands and IRQCHK run under the guard, the others do not. -/
theorem generalDmaBlocksTheCpu : Obligations.GeneralDmaBlocksTheCpu := by
  refine ⟨fun s i hs hm hi => ?blocked, fun s n a b hs _ => ?free⟩
  case blocked =>
    have hguard : ∃ f, exec i s = .next (command (unlessGdma f) s) := by
      obtain ⟨a, rfl | rfl⟩ | ⟨a, v, rfl | rfl⟩ | rfl := hi <;> exact ⟨_, rfl⟩
    obtain ⟨f, hexec⟩ := hguard
    rw [hexec, command_unlessGdma hs hm]
  case free =>
    obtain ⟨hclkget, hbrkchk, -⟩ := clkgetAndBrkchkAnswer s hs
    have hrule {i : Instr} {f : State → State} (hexec : exec i s = .next (command f s)) : exec i s = .next (f (begun s)) := by
      rw [hexec, command_ready hs]
    refine ⟨hclkget, (clkaddAdvancesTheClock s n hs).1, hbrkchk, hrule (f := setPc a) rfl, hrule (f := setSp a) rfl,
      hrule (f := setIme b) rfl, hrule (f := setHaltMode .run) rfl, hrule (f := setHaltMode .halt) rfl,
      fun hswitch => (hrule (f := setHaltMode .stop) rfl).trans ?_⟩
    exact congrArg _ (if_neg (ne_true_of_eq_false hswitch))

end Sys2Proof.Machine
end

section
/-! SUPPORT. The clocks of the acknowledge (R404, R477, R478): 20, and HALT_WAKE_EXTRA where it wakes the CPU from HALT. -/

namespace Sys2Proof.Machine

open Sys2Proof.Safety

/-- The clocks the wake from HALT adds to the acknowledge sequence (R478). -/
def wakeExtra (s : State) : Nat := if s.haltMode = .halt then s.params.haltWakeExtra else 0

theorem wakeAfterAck_eq {s : State} (hh : s.haltMode ≠ .stop) (hr : s.ref + s.params.haltWakeExtra ≤ 0x7FFFFFFF) :
    wakeAfterAck s = { s with haltMode := .run, ref := s.ref + wakeExtra s } := by
  unfold wakeAfterAck wakeExtra
  split
  · rename_i h
    rw [if_pos h]
    exact addClock_room hr
  · rename_i h
    rw [if_neg (by simp [h]), Nat.add_zero, ← h]
  · contradiction

/-- With IME set and a request standing, the check runs the whole sequence and the wake, where the clock has room. -/
theorem irqDecide_room {s : State} (hf : s.fault = none) (hh : s.haltMode ≠ .stop) (hime : s.ime = true)
    (hp : pendingIrqs s ≠ 0) (hr : s.ref + 20 + s.params.haltWakeExtra ≤ 0x7FFFFFFF) :
    irqDecide s = { takeVector (pushed s) with haltMode := .run, ref := s.ref + 20 + wakeExtra s } := by
  have hack := acknowledge_room hf (by omega)
  obtain ⟨hparams, hfault, hhalt⟩ : (takeVector (pushed s)).params = s.params ∧ (takeVector (pushed s)).fault = none ∧
      (takeVector (pushed s)).haltMode = s.haltMode := by simp only [takeVector_keeps, pushed_keeps, hf, and_self]
  generalize takeVector (pushed s) = u at *
  have hextra : wakeExtra { u with ref := s.ref + 20 } = wakeExtra s := by simp only [wakeExtra, hparams, hhalt]
  have hwake := wakeAfterAck_eq (s := { u with ref := s.ref + 20 }) (by rwa [← hhalt] at hh) (by rwa [← hparams] at hr)
  rw [irqDecide_acknowledges hh hp hime, hack, unlessFaulted_ready (s := { u with ref := s.ref + 20 }) hfault, hwake,
    hextra]

/-- Settles O42: the sequence runs to its end, wherever SP points, and the answer is the clocks it took. -/
theorem acknowledgeTakesTwentyClocks : Obligations.AcknowledgeTakesTwentyClocks := by
  intro s hs hh hime hp hr
  have hhalt : (current s).haltMode = s.haltMode := by simp
  have hreq : pendingIrqs (current s) ≠ 0 := by simpa [pendingIrqs] using hp
  have hextra : wakeExtra (current s) = wakeExtra s := by simp [wakeExtra]
  have hdecide := irqDecide_room ((current_fault s).trans hs.1) (hhalt ▸ hh) (by simp [hime]) hreq
    (by rwa [current_ref, current_params])
  rw [current_ref, hextra] at hdecide
  have hkept : (takeVector (pushed (current s))).fault = none ∧ (takeVector (pushed (current s))).ime = false ∧
      (takeVector (pushed (current s))).cpuSp = s.cpuSp - 2 := by
    simp [takeVector_keeps, pushed_keeps, hs.1]
  obtain ⟨hfault, himeClear, hsp⟩ := hkept
  generalize takeVector (pushed (current s)) = u at *
  have hclocks : s.ref + 20 + wakeExtra s - s.ref = 20 + wakeExtra s := by omega
  have hexec : exec .irqchk s = .next { u with
      haltMode := .run, ref := s.ref + 20 + wakeExtra s, response := some (.clocks (20 + wakeExtra s)) } := by
    rw [exec_irqchk hs, hdecide, hclocks]
    exact congrArg _ (respond_ready hfault)
  refine ⟨_, hexec, hfault, himeClear, hsp, rfl, fun hrun => ?_, fun hhalted => ?_⟩
  · have hnone : wakeExtra s = 0 := if_neg (by simp [hrun])
    simp only [hnone, Nat.add_zero, and_self]
  · have hfull : wakeExtra s = s.params.haltWakeExtra := if_pos hhalted
    simp only [hfull, and_self]

end Sys2Proof.Machine
end

section
/-! SUPPORT. CPUSET (R405) and the speed switch that STOP makes on the CGB family (R482). -/

namespace Sys2Proof.Machine

open Sys2Proof.Safety

theorem switchesSpeed_iff (s : State) :
    switchesSpeed s = true ↔ s.params.speedSwitch = .onStop ∧ s.family = .cgb ∧ s.key1Prepare = true := by
  simp only [switchesSpeed, Bool.and_eq_true, beq_iff_eq, and_assoc]

theorem setHaltMode_stop_stops {s : State} (h : switchesSpeed s = false) :
    setHaltMode .stop s = { s with haltMode := .stop } :=
  if_neg (ne_true_of_eq_false h)

/-- Where the clock has room, the speed switch pays its clocks and the CPU goes on running (R482). -/
theorem setHaltMode_stop_switches {s : State} (h : switchesSpeed s = true)
    (hr : s.ref + s.params.speedSwitchClocks ≤ 0x7FFFFFFF) :
    setHaltMode .stop s = { s with
      doubleSpeed := !s.doubleSpeed, key1Prepare := false, haltMode := .run
      ref := s.ref + s.params.speedSwitchClocks } :=
  (if_pos h).trans (addClock_room hr)

/-- Settles O50: each form runs its rule alone, and STOP has the two cases of R405. -/
theorem cpusetSetsTheContext : Obligations.CpusetSetsTheContext := by
  intro s a b hs
  have hrule {i : Instr} {f : State → State} (hi : cpuRule i = some f) : exec i s = .next (f (begun s)) := by
    rw [exec_cpuRule hi, command_ready hs]
  have hstop : exec .cpusetHaltStop s = .next (setHaltMode .stop (begun s)) := hrule rfl
  refine ⟨hrule (f := setPc a) rfl, hrule (f := setSp a) rfl, hrule (f := setIme b) rfl, hrule (f := setHaltMode .run) rfl,
    hrule (f := setHaltMode .halt) rfl, fun hno => ?stops, fun hswitch hr => ?switches⟩
  case stops =>
    rw [hstop, setHaltMode_stop_stops (s := begun s) (Bool.eq_false_of_not_eq_true fun h => hno ((switchesSpeed_iff s).1 h))]
  case switches =>
    rw [hstop, setHaltMode_stop_switches (s := begun s) ((switchesSpeed_iff s).2 hswitch) hr]

end Sys2Proof.Machine
end

section
/-! SUPPORT. POWERON (R400-R402, R407, R433, R521): the model and the CGB request it accepts, the records it logs, what each
supplied collaborator's reset sees, and the renderer. -/

namespace Sys2Proof.Machine

open Sys2Proof.Safety

/-! ## The model and the CGB request -/

/-- The CONFIG record of a POWERON, with the PC and the ROM bank as they stand (R401, R402, R491). -/
def configRecord (s : State) : Anomaly := { kind := .config, access := none, pc := s.cpuPc, romBank := romCurr s }

/-- `s` with `n` more CONFIG records. -/
def configLogged (n : Nat) (s : State) : State :=
  { s with anomalies := s.anomalies ++ List.replicate n (configRecord s) }

theorem configLogged_zero (s : State) : configLogged 0 s = s := by
  rw [configLogged, List.replicate_zero, List.append_nil]

theorem configLogged_one (s : State) : configLogged 1 s = logAnomaly .config none s := rfl

theorem configLogged_add (m n : Nat) (s : State) : configLogged n (configLogged m s) = configLogged (m + n) s := by
  have hrecord : configRecord (configLogged m s) = configRecord s := rfl
  rw [configLogged, hrecord]
  simp only [configLogged, List.append_assoc, List.replicate_append_replicate]

theorem hwModelOfId_eq_none_iff (model : BitVec 3) : hwModelOfId model = none ↔ 6 ≤ model.toNat := by
  revert model
  decide

/-- The hardware POWERON proceeds with: DMG for an unrecognized id (R401). -/
def poweredModel (model : BitVec 3) : HwModel := (hwModelOfId model).getD .dmg

theorem isColorModel_poweredModel (model : BitVec 3) :
    isColorModel (poweredModel model) = (model == 4 || model == 5) := by
  revert model
  decide

/-- The CGB request POWERON proceeds with (R402). -/
def poweredCgb (model : BitVec 3) (cgb : Bool) : Bool := cgb && (model == 4 || model == 5)

theorem acceptModel_eq (model : BitVec 3) (s : State) :
    acceptModel model s = (poweredModel model, configLogged (if 6 ≤ model.toNat then 1 else 0) s) := by
  unfold acceptModel poweredModel
  split
  · rename_i h
    have hknown : ¬ 6 ≤ model.toNat := fun hle => by simp [(hwModelOfId_eq_none_iff model).2 hle] at h
    rw [h, if_neg hknown, configLogged_zero]
    rfl
  · rename_i h
    rw [h, if_pos ((hwModelOfId_eq_none_iff model).1 h), configLogged_one]
    rfl

theorem acceptCgb_eq (model : BitVec 3) (cgb : Bool) (s : State) :
    acceptCgb (poweredModel model) cgb s =
      (poweredCgb model cgb, configLogged (if cgb = true ∧ model ≠ 4 ∧ model ≠ 5 then 1 else 0) s) := by
  rw [acceptCgb, isColorModel_poweredModel, poweredCgb]
  by_cases hcolor : model = 4 ∨ model = 5
  · have hmay : (model == 4 || model == 5) = true := by simpa using hcolor
    rw [hmay, if_neg (by simp), if_neg (by tauto), configLogged_zero, Bool.and_true]
  · obtain ⟨h4, h5⟩ := not_or.1 hcolor
    have hmay : (model == 4 || model == 5) = false :=
      Bool.or_eq_false_iff.2 ⟨beq_eq_false_iff_ne.2 h4, beq_eq_false_iff_ne.2 h5⟩
    rw [hmay, Bool.and_false]
    cases cgb with
    | true => rw [if_pos (by rfl), if_pos ⟨rfl, h4, h5⟩, configLogged_one]
    | false => rw [if_neg (by simp), if_neg (by simp), configLogged_zero]

/-! ## The stages -/

/-- How many CONFIG records a POWERON logs (R401, R402). -/
def configCount (model : BitVec 3) (cgb : Bool) : Nat :=
  (if 6 ≤ model.toNat then 1 else 0) + (if cgb = true ∧ model ≠ 4 ∧ model ≠ 5 then 1 else 0)

/-- The state whose subsystems POWERON resets: the fixed values set, IE, IF and RAM drawn (R400). -/
def powerPrepared (model : BitVec 3) (boot cgb : Bool) (s : State) : State :=
  powerDraws (powerFixed (poweredModel model) boot (poweredCgb model cgb)
    (configLogged (configCount model cgb) { s with response := none, runStart := s.anomalies.length }))

theorem powerOn_eq (model : BitVec 3) (boot cgb : Bool) (s : State) :
    powerOn model boot cgb s = powerEntry boot (resetAll (powerPrepared model boot cgb s)) := by
  rw [powerOn, acceptModel_eq]
  dsimp only
  rw [acceptCgb_eq, configLogged_add]
  rfl

theorem powerFixed_family (model : BitVec 3) (boot cgb : Bool) (s : State) :
    (powerFixed (poweredModel model) boot (poweredCgb model cgb) s).family =
      (if (model = 4 ∨ model = 5) ∧ cgb = true then .cgb else .dmg) := by
  have hcolor : (isColorModel (poweredModel model) && poweredCgb model cgb) = true ↔
      (model = 4 ∨ model = 5) ∧ cgb = true := by
    rw [isColorModel_poweredModel, poweredCgb]
    simp only [Bool.and_eq_true, Bool.or_eq_true, beq_iff_eq]
    tauto
  simp only [powerFixed, hcolor]

/-- The renderer of the model and the CGB request (R433). -/
theorem powerFixed_renderer (model : BitVec 3) (boot cgb : Bool) (s : State) :
    (powerFixed (poweredModel model) boot (poweredCgb model cgb) s).renderer =
      (if model = 4 ∨ model = 5 then (if cgb = true then .cgb else .cgbCompat) else .dmg) := by
  have h : ∀ (model : BitVec 3) (cgb : Bool),
      rendererFor (poweredModel model) (poweredCgb model cgb)
          (if isColorModel (poweredModel model) && poweredCgb model cgb then .cgb else .dmg) =
        (if model = 4 ∨ model = 5 then (if cgb = true then .cgb else .cgbCompat) else .dmg) := by decide
  exact h model cgb

/-! ## What the resets see -/

/-- The subsystems POWERON resets before a collaborator's own reset (R400); the joypad has none. -/
def resetsBefore : Collab → List Subsystem
  | .ppu => [.timer]
  | .serial => [.timer, .ppu]
  | .sound => [.timer, .ppu, .serial, .dma]
  | .camera => [.timer, .ppu, .serial, .dma, .sound]
  | .joypad => []

/-- The block as a collaborator's reset sees it. -/
def resetSight (c : Collab) (p : State) : State := (resetsBefore c).foldl (fun s sub => subReset sub s) p

/-- It is the prepared block in all but the subsystems reset before: the PC and the SP from before POWERON, the clock, the
selections, IE, IF and RAM as drawn. -/
theorem resetSight_keeps (c : Collab) (p : State) :
    (resetSight c p).cpuPc = p.cpuPc ∧ (resetSight c p).cpuSp = p.cpuSp ∧ (resetSight c p).params = p.params ∧
    (resetSight c p).family = p.family ∧ (resetSight c p).ieReg = p.ieReg ∧ (resetSight c p).ifReg = p.ifReg ∧
    (resetSight c p).vram = p.vram ∧ (resetSight c p).wram = p.wram ∧ (resetSight c p).oam = p.oam ∧
    (resetSight c p).ref = p.ref := by
  have h : ResetOnly p (resetSight c p) := subResets_only (resetsBefore c) p
  unfold ResetOnly at h
  rw [h]
  simp only [and_self]

theorem resetSight_params (c : Collab) (p : State) : (resetSight c p).params = p.params :=
  (congrArg State.params (subResets_only (resetsBefore c) p) :)

theorem resetCore_supplied {supplied : Bool} (h : supplied = true) (c : Collab) (s : State) :
    resetCore supplied c s = Config.collabReset c (collabView s) := if_pos h

theorem resetAll_ppu_supplied {p : State} (h : p.params.hasPpu = true) :
    (resetAll p).ppu = { Config.ppuReset (collabView (resetSight .ppu p)) with halfClock := false } :=
  (resetAll_ppu p).trans (if_pos ((congrArg Params.hasPpu (resetSight_params .ppu p)).trans h))

theorem resetAll_serial_supplied {p : State} (h : p.params.hasSerial = true) :
    (resetAll p).serial = Config.collabReset .serial (collabView (resetSight .serial p)) :=
  (resetAll_serial p).trans (resetCore_supplied h _ _)

theorem resetAll_sound_supplied {p : State} (h : p.params.hasSound = true) :
    (resetAll p).sound = Config.collabReset .sound (collabView (resetSight .sound p)) :=
  (resetAll_sound p).trans (resetCore_supplied h _ _)

theorem resetAll_camera_supplied {p : State} (h : p.params.hasCamera = true) :
    (resetAll p).camera.own = Config.collabReset .camera (collabView (resetSight .camera p)) ∧
    (resetAll p).camera.frame = Config.cameraResetFrame (collabView (resetSight .camera p)) := by
  have hsupplied : (resetSight .camera p).params.hasCamera = true :=
    (congrArg Params.hasCamera (resetSight_params .camera p)).trans h
  rw [resetAll_camera]
  exact ⟨resetCore_supplied hsupplied _ _, if_pos hsupplied⟩

/-! ## The obligation -/

/-- Settles O44: the fixed values and the draws stand before the resets, which write the subsystems alone; the entry point
comes last. -/
theorem poweronResetsTheBlock : Obligations.PoweronResetsTheBlock := by
  intro s model boot cgb
  refine ⟨_, rfl, ?_⟩
  have hlast := powerOn_last model boot cgb s
  have hfamily := powerFixed_family model boot cgb
    (configLogged (configCount model cgb) { s with response := none, runStart := s.anomalies.length })
  rw [powerOn_eq] at hlast ⊢
  -- The other fields are read off the stages, in the statement's order.
  refine ⟨rfl, rfl, rfl, hlast, rfl, rfl,
    rfl, rfl, rfl, rfl, rfl,
    hfamily,
    rfl, rfl, rfl, rfl,
    rfl, rfl, rfl, rfl,
    rfl, rfl,
    rfl, rfl, rfl,
    rfl, rfl, rfl, rfl, rfl,
    rfl,
    rfl, rfl, rfl, rfl, rfl,
    fun hboot => if_pos hboot,
    rfl,
    fun c => ⟨resetSight c (powerPrepared model boot cgb s), ?collab⟩⟩
  obtain ⟨hpc, hsp, hparams, hfam, hie, hif, hvram, hwram, hoam, href⟩ :=
    resetSight_keeps c (powerPrepared model boot cgb s)
  refine ⟨hpc, hsp, hparams, hfam, hie, hif, hvram, hwram, hoam, href, ?_, ?_, ?_, ?_⟩
  · rintro rfl h
    exact resetAll_ppu_supplied (p := powerPrepared model boot cgb s) h
  · rintro rfl h
    exact resetAll_serial_supplied (p := powerPrepared model boot cgb s) h
  · rintro rfl h
    exact resetAll_sound_supplied (p := powerPrepared model boot cgb s) h
  · rintro rfl h
    exact resetAll_camera_supplied (p := powerPrepared model boot cgb s) h

end Sys2Proof.Machine
end

section
/-! SUPPORT. MAPPERSET (R403, R450, R451, R457): what each kind is bound to, and the record of MBC6. -/

namespace Sys2Proof.Machine

open Sys2Proof.Safety

theorem exec_mappersetOf {s : State} (hs : Ready s) (kind : MapperKind) :
    exec (mappersetOf kind) s = .next (mapperSet kind (begun s)) := by
  have h : exec (mappersetOf kind) s = .next (command (mapperSet kind) s) := by cases kind <;> rfl
  rw [h, command_ready hs]

theorem mapperInit_supplied {s : State} (h : s.params.mapperSupplied = true) (kind : MapperKind) :
    mapperInit kind s = .supplied kind (Config.mapperBind kind s.cartRtc (mapperContext s)) := if_pos h

theorem mapperInit_default {s : State} (h : s.params.mapperSupplied = false) (kind : MapperKind) :
    mapperInit kind s = defaultMapper kind s := if_neg (ne_true_of_eq_false h)

theorem defaultMapper_kind (kind : MapperKind) (s : State) : (defaultMapper kind s).kind = kind := by
  cases kind <;> rfl

theorem defaultMapper_ne_supplied (kind k : MapperKind) (s : State) (m : BankRegs) :
    defaultMapper kind s ≠ .supplied k m := by
  cases kind <;> exact nofun

theorem mapperInit_kind (kind : MapperKind) (s : State) : (mapperInit kind s).kind = kind := by
  cases h : s.params.mapperSupplied with
  | true => rw [mapperInit_supplied h, Mapper.kind]
  | false => rw [mapperInit_default h, defaultMapper_kind]

/-- Every kind but MBC6 is bound and nothing else (R403). -/
theorem mapperSet_of_ne_mbc6 {kind : MapperKind} (h : kind ≠ .mbc6) (s : State) :
    mapperSet kind s = { s with mapper := mapperInit kind s } := by
  cases kind
  case mbc6 => contradiction
  all_goals rfl

/-- MBC6 logs UNSUPPORTED once in a run (R457, R490): a run that has the record gets no other. -/
theorem mapperSet_mbc6_logged {s : State} (h : ∃ a ∈ s.anomalies.drop s.runStart, a.kind = .unsupportedMbc6) :
    mapperSet .mbc6 s = { s with mapper := mapperInit .mbc6 s } :=
  if_pos (by simpa [runLog] using h)

/-- A run that has none gets it after the binding. -/
theorem mapperSet_mbc6_new {s : State} (h : ∀ a ∈ s.anomalies.drop s.runStart, a.kind ≠ .unsupportedMbc6) :
    mapperSet .mbc6 s = logAnomaly .unsupportedMbc6 none { s with mapper := mapperInit .mbc6 s } :=
  if_neg (by simpa [runLog] using h)

theorem mapperSet_frame (kind : MapperKind) (s : State) :
    mapperSet kind s = { s with mapper := mapperInit kind s, anomalies := (mapperSet kind s).anomalies } := by
  by_cases h : kind = .mbc6
  · rw [h]
    exact logOnce_frame _ _
  · rw [mapperSet_of_ne_mbc6 h]

/-- Settles O45: MAPPERSET binds what `Mapper.init` gives and MBC6 logs after it; POWERON's renderer is that of its
selections. -/
theorem mappersetBindsTheVariant : Obligations.MappersetBindsTheVariant := by
  refine ⟨fun s kind hs => ⟨_, exec_mappersetOf hs kind, ?binds⟩, fun s model boot cgb => ⟨_, rfl, ?renderer⟩⟩
  case renderer =>
    rw [powerOn_eq]
    exact powerFixed_renderer model boot cgb
      (configLogged (configCount model cgb) { s with response := none, runStart := s.anomalies.length })
  case binds =>
    have hframe := mapperSet_frame kind (begun s)
    have hmapper : (mapperSet kind (begun s)).mapper = mapperInit kind s := congrArg State.mapper hframe
    have hkind := mapperInit_kind kind s
    have hdefault (h : s.params.mapperSupplied = false) : (mapperSet kind (begun s)).mapper = defaultMapper kind s :=
      hmapper.trans (mapperInit_default h kind)
    refine ⟨?frame, hmapper ▸ hkind, fun h => ?notMbc6, ?logged, ?fresh, fun h => ?supplied, fun h m => ?notSupplied,
      ?none, ?mbc1, ?mbc3, ?mbc5⟩
    case frame => rw [hframe]
    case notMbc6 => rw [mapperSet_of_ne_mbc6 h]
    case logged =>
      rintro rfl h
      rw [mapperSet_mbc6_logged (s := begun s) h]
    case fresh =>
      rintro rfl h
      rw [mapperSet_mbc6_new (s := begun s) h]
      rfl
    case supplied => exact ⟨_, hmapper.trans (mapperInit_supplied h kind)⟩
    case notSupplied => exact hdefault h ▸ defaultMapper_ne_supplied kind kind s m
    case none =>
      rintro h rfl
      exact hdefault h
    case mbc1 =>
      rintro h rfl
      exact hdefault h
    case mbc3 =>
      rintro h rfl
      exact ⟨_, hdefault h, rfl, rfl, rfl⟩
    case mbc5 =>
      rintro h rfl
      exact hdefault h

end Sys2Proof.Machine
end

section
/-! SUPPORT. What the host does between commands (R408, R441, R447, R460): the bytes a cartridge supplies, the joypad lines,
and a save. -/

namespace Sys2Proof.Machine

open Sys2Proof.Safety

/-! ## Arrays built from cells -/

/-- Writing cells leaves an address none of them names. -/
theorem mem_read_foldl_other {a : Nat} {cells : List Host.Cell} (h : ∀ p ∈ cells, p.1 ≠ a) (m : Mem) :
    (cells.foldl (fun m c => m.write c.1 c.2) m).read a = m.read a := by
  induction cells generalizing m with
  | nil => rfl
  | cons c rest ih =>
    obtain ⟨hc, hrest⟩ := List.forall_mem_cons.1 h
    rw [List.foldl_cons, ih hrest, mem_read_write_other _ _ hc.symm]

/-- A named address holds the byte that every cell naming it gives. -/
theorem mem_read_foldl_same {a : Nat} {v : Byte} {cells : List Host.Cell} (hmem : ∃ p ∈ cells, p.1 = a)
    (hall : ∀ p ∈ cells, p.1 = a → p.2 = v) {m : Mem} (hm : m.wf = true) :
    (cells.foldl (fun m c => m.write c.1 c.2) m).read a = v := by
  induction cells generalizing m with
  | nil => simp at hmem
  | cons c rest ih =>
    obtain ⟨hc, hrest⟩ := List.forall_mem_cons.1 hall
    rw [List.foldl_cons]
    by_cases hlater : ∃ p ∈ rest, p.1 = a
    · exact ih hlater hrest (mem_wf_write hm c.1 c.2)
    · have hca : c.1 = a := by
        obtain ⟨p, hp, hpa⟩ := hmem
        obtain rfl | hp := List.mem_cons.1 hp
        · exact hpa
        · exact absurd ⟨p, hp, hpa⟩ hlater
      rw [mem_read_foldl_other (fun p hp hpa => hlater ⟨p, hp, hpa⟩), ← hca, mem_read_write_same hm, hc hca]

theorem mem_read_ofCells_listed {a : Nat} {v : Byte} {cells : List Host.Cell} (hmem : (a, v) ∈ cells)
    (hall : ∀ p ∈ cells, p.1 = a → p.2 = v) (g : Nat) : (Mem.ofCells g cells).read a = v :=
  mem_read_foldl_same ⟨_, hmem, rfl⟩ hall (mem_wf_nil g)

theorem mem_read_ofCells_unlisted {a : Nat} {cells : List Host.Cell} (h : ∀ p ∈ cells, p.1 ≠ a) (g : Nat) :
    (Mem.ofCells g cells).read a = if g = 0 then 0 else Config.ramDraw g a :=
  mem_read_foldl_other h _

/-! ## The joypad lines -/

theorem moveJoypad_absent {s : State} (h : s.params.hasJoypad = false) (keys : Byte) : moveJoypad keys s = s :=
  if_neg (ne_true_of_eq_false h)

/-- The model's answer to the lines is its own state, with the request it may raise (R447). -/
theorem moveJoypad_present {s : State} (h : s.params.hasJoypad = true) (keys : Byte) :
    moveJoypad keys s = { s with
      joypad := (Config.joypadInput s.joypad keys).1
      ifReg := if (Config.joypadInput s.joypad keys).2 then s.ifReg ||| 0x10 else s.ifReg } := by
  rw [moveJoypad, if_pos h]
  dsimp only
  cases (Config.joypadInput s.joypad keys).2 <;> rfl

/-! ## A save -/

/-- Taking the RTC block draws at most. -/
theorem savedRtc_frame (s : State) : (savedRtc s).2 = { s with draws := (savedRtc s).2.draws } := by
  unfold savedRtc
  split
  · split
    · rw [drawRtc_snd]
    · rfl
  · rw [drawBytes_snd]
  all_goals rfl

theorem savedRtc_mbc3_emulated {s : State} {m : Mbc3} (hm : s.mapper = .mbc3 m) (h : s.params.rtcSource = .emulated) :
    (savedRtc s).1 = some (rtcNow s m) := by
  simp only [savedRtc, hm, h]

/-- Every MBC3 has a clock (log 18). -/
theorem savedRtc_mbc3_ne_none {s : State} {m : Mbc3} (hm : s.mapper = .mbc3 m) : (savedRtc s).1 ≠ none := by
  cases h : s.params.rtcSource <;> simp [savedRtc, hm, h]

theorem savedRtc_none {s : State} (hm : s.mapper = .none) : (savedRtc s).1 = none := by
  simp only [savedRtc, hm]

theorem savedBanks_length (s : State) : (savedBanks s).length = s.params.eramBanks := by
  rw [savedBanks, List.length_map, List.length_range]

/-- Byte `i` of bank `b` of a save is the byte of external RAM there (R408). -/
theorem savedBanks_getElem? {s : State} {b i : Nat} (hb : b < s.params.eramBanks) (hi : i < 0x2000) :
    ((savedBanks s)[b]?).bind (fun bank => bank[i]?) = some (s.eram.read (b * 0x2000 + i)) := by
  have hbank : (savedBanks s)[b]? = some (savedBank s b) := by
    rw [savedBanks, List.getElem?_map, List.getElem?_range hb, Option.map_some]
  rw [hbank, Option.bind_some, savedBank, List.getElem?_map, List.getElem?_range hi, Option.map_some, eramIndex]

/-! ## The obligation -/

/-- An interaction that is no command word acts on the state without it (R408). -/
theorem step_hostAct {s : State} {x : HostInput} {rest : List HostInput} (h : s.inputs = x :: rest)
    (hx : ∀ w, x ≠ .command w) : step s = .next (hostAct x { s with inputs := rest }) := by
  cases x with
  | command w => exact absurd rfl (hx w)
  | cartridge c => rw [step, h]
  | bootImage cells => rw [step, h]
  | joypad keys => rw [step, h]
  | takeAudio => rw [step, h]
  | save => rw [step, h]

/-- Settles O7: each interaction is taken from the queue and acts by its own rule. -/
theorem hostInteractionsBetweenCommands : Obligations.HostInteractionsBetweenCommands := by
  refine ⟨fun s h => ?waits, fun s c rest h => ⟨_, step_hostAct h nofun, ?cartridge⟩,
    fun s cells rest h => step_hostAct h nofun, fun s keys rest h hno => (step_hostAct h nofun).trans ?noJoypad,
    fun s keys rest r h hyes hr => (step_hostAct h nofun).trans ?joypad, fun s rest h => step_hostAct h nofun,
    fun s rest h => ⟨_, savedBanks s, (savedRtc { s with inputs := rest }).1, step_hostAct h nofun, ?save⟩⟩
  case waits => rw [step, h]
  case cartridge =>
    exact ⟨rfl, fun a v hmem hall => mem_read_ofCells_listed hmem hall 0, fun a hun => mem_read_ofCells_unlisted hun 0,
      fun a v hmem hall => mem_read_ofCells_listed hmem hall (s.draws + 1),
      fun a hun => mem_read_ofCells_unlisted hun (s.draws + 1)⟩
  case noJoypad => rw [hostAct, moveJoypad_absent (s := { s with inputs := rest }) hno]
  case joypad => rw [hostAct, moveJoypad_present (s := { s with inputs := rest }) hyes, hr]
  case save =>
    refine ⟨?frame, savedBanks_length s, fun b i => savedBanks_getElem?,
      fun m hm he => savedRtc_mbc3_emulated (s := { s with inputs := rest }) hm he,
      fun m hm => savedRtc_mbc3_ne_none (s := { s with inputs := rest }) hm,
      fun hm => savedRtc_none (s := { s with inputs := rest }) hm⟩
    rw [hostAct, takeSave, savedRtc_frame]
    rfl

end Sys2Proof.Machine
end

section
/-! SUPPORT. Writes to 0x0000-0x7FFF in the default layouts (R103, R450-R453): the register each range sets, and the ROM
bank a written register selects. -/

namespace Sys2Proof.Machine

open Sys2Proof.Safety

/-! ## The mapper's share of a write -/

/-- A write below 0x8000 is the mapper's bank registers' (R103). -/
theorem exec_writesBank {s : State} {a : Addr} {v : Byte} (hs : CpuMay s) (ha : a.toNat ≤ 0x7FFF) :
    exec (.wr8 a v) s = .next (bankWrite (current s) a.toNat v) := by
  have hregion : regionOf a = .rom0 ∨ regionOf a = .romX := by
    by_cases h : a.toNat ≤ 0x3FFF
    · exact .inl (regionOf_rom0 h)
    · exact .inr (regionOf_romX (by omega))
  have hbank : regionWrite a v (current s) = mapperWrite (current s) a.toNat v := by
    obtain h | h := hregion <;> simp only [regionWrite, h]
  rw [exec_writesBelow hs (.inl rfl) (by omega), hbank, mapperWrite, if_pos (by omega)]

section
variable {s : State} {a : Addr} {v : Byte} (hs : CpuMay s) (ha : a.toNat ≤ 0x7FFF)
include hs ha

/-- Without a mapper the write has no effect (R453). -/
theorem exec_writesBank_none (hm : s.mapper = .none) : exec (.wr8 a v) s = .next (current s) := by
  rw [exec_writesBank hs ha]
  simp only [bankWrite, (current_mapper s).trans hm]

theorem exec_writesBank_mbc1 {m : Mbc1} (hm : s.mapper = .mbc1 m) :
    exec (.wr8 a v) s = .next { current s with mapper := .mbc1 (m.write a.toNat v) } := by
  rw [exec_writesBank hs ha]
  simp only [bankWrite, (current_mapper s).trans hm]

theorem exec_writesBank_mbc3 {m : Mbc3} (hm : s.mapper = .mbc3 m) :
    exec (.wr8 a v) s = .next (mbc3Write (current s) m a.toNat v) := by
  rw [exec_writesBank hs ha]
  simp only [bankWrite, (current_mapper s).trans hm]

theorem exec_writesBank_mbc5 {m : Mbc5} (hm : s.mapper = .mbc5 m) :
    exec (.wr8 a v) s = .next { current s with mapper := .mbc5 (m.write a.toNat v) } := by
  rw [exec_writesBank hs ha]
  simp only [bankWrite, (current_mapper s).trans hm]

end

/-! ## The bits of the written byte -/

/-- The low bits of a byte are its remainder. -/
theorem extractLsb'_zero_eq_mod {n k : Nat} (hk : 2 ^ n = k) (v : Byte) :
    v.extractLsb' 0 n = BitVec.ofNat n (v.toNat % k) :=
  BitVec.eq_of_toNat_eq (by simp [← hk])

theorem enablesRam_eq_decide (v : Byte) : enablesRam v = decide (v.toNat % 16 = 0xA) := by
  rw [enablesRam, extractLsb'_zero_eq_mod (k := 16) rfl, Bool.beq_eq_decide_eq, decide_eq_decide, BitVec.toNat_eq]
  simp

theorem getLsbD_zero_eq_decide (v : Byte) : v.getLsbD 0 = decide (v.toNat % 2 = 1) := by
  simp [BitVec.getLsbD, Nat.testBit_zero]

/-- The low byte of the MBC5's bank register is written under its bit 8 (R451). -/
theorem mbc5Bank_low (bank : BitVec 9) (v : Byte) :
    bank.extractLsb' 8 1 ++ v = BitVec.ofNat 9 (bank.toNat / 256 * 256 + v.toNat) := by
  have hbank := bank.isLt
  have hv := v.isLt
  refine BitVec.eq_of_toNat_eq ((toNat_append_add _ v).trans ?_)
  simp only [BitVec.extractLsb'_toNat, Nat.shiftRight_eq_div_pow, BitVec.toNat_ofNat]
  omega

/-- Its bit 8 is written over its low byte (R451). -/
theorem mbc5Bank_high (bank : BitVec 9) (v : Byte) :
    v.extractLsb' 0 1 ++ bank.extractLsb' 0 8 = BitVec.ofNat 9 (v.toNat % 2 * 256 + bank.toNat % 256) := by
  refine BitVec.eq_of_toNat_eq ((toNat_append_add _ _).trans ?_)
  simp only [BitVec.extractLsb'_toNat, Nat.shiftRight_eq_div_pow, BitVec.toNat_ofNat]
  omega

/-! ## The register each range sets -/

section
variable (m : Mbc1) {n : Nat} (v : Byte)

theorem mbc1_write_ramEnabled (h : n ≤ 0x1FFF) :
    m.write n v = { m with ramEnabled := decide (v.toNat % 16 = 0xA) } := by
  rw [Mbc1.write, if_pos (by omega), enablesRam_eq_decide]

theorem mbc1_write_bank (h : 0x2000 ≤ n ∧ n ≤ 0x3FFF) :
    m.write n v = { m with bank := BitVec.ofNat 5 (v.toNat % 32) } := by
  rw [Mbc1.write, if_neg (by omega), if_pos (by omega), extractLsb'_zero_eq_mod (k := 32) rfl]

theorem mbc1_write_upper (h : 0x4000 ≤ n ∧ n ≤ 0x5FFF) :
    m.write n v = { m with upper := BitVec.ofNat 2 (v.toNat % 4) } := by
  rw [Mbc1.write, if_neg (by omega), if_neg (by omega), if_pos (by omega), extractLsb'_zero_eq_mod (k := 4) rfl]

theorem mbc1_write_mode (h : 0x6000 ≤ n) : m.write n v = { m with mode := decide (v.toNat % 2 = 1) } := by
  rw [Mbc1.write, if_neg (by omega), if_neg (by omega), if_neg (by omega), getLsbD_zero_eq_decide]

end

section
variable (s : State) (m : Mbc3) {n : Nat} (v : Byte)

theorem mbc3Write_ramEnabled (h : n ≤ 0x1FFF) :
    mbc3Write s m n v = { s with mapper := .mbc3 { m with ramEnabled := decide (v.toNat % 16 = 0xA) } } := by
  rw [mbc3Write, if_pos (by omega), enablesRam_eq_decide]

theorem mbc3Write_bank (h : 0x2000 ≤ n ∧ n ≤ 0x3FFF) :
    mbc3Write s m n v = { s with mapper := .mbc3 { m with bank := BitVec.ofNat 7 (v.toNat % 128) } } := by
  rw [mbc3Write, if_neg (by omega), if_pos (by omega), extractLsb'_zero_eq_mod (k := 128) rfl]

theorem mbc3Write_select (h : 0x4000 ≤ n ∧ n ≤ 0x5FFF) :
    mbc3Write s m n v = { s with mapper := .mbc3 { m with select := BitVec.ofNat 4 (v.toNat % 16) } } := by
  rw [mbc3Write, if_neg (by omega), if_neg (by omega), if_pos (by omega), extractLsb'_zero_eq_mod (k := 16) rfl]

/-- At 0x6000-0x7FFF a 0x01 while the latch is armed is the latching edge (R454). -/
theorem mbc3Write_latch (h : 0x6000 ≤ n) (harmed : m.latchArmed = true) : mbc3Write s m n 0x01 = latchRtc s m := by
  rw [mbc3Write, if_neg (by omega), if_neg (by omega), if_neg (by omega), harmed]
  rfl

/-- Any other byte there arms the latch or disarms it (log 18). -/
theorem mbc3Write_arm (h : 0x6000 ≤ n) {v : Byte} (hv : v ≠ 0x01 ∨ m.latchArmed = false) :
    mbc3Write s m n v = { s with mapper := .mbc3 { m with latchArmed := v == 0x00 } } := by
  rw [mbc3Write, if_neg (by omega), if_neg (by omega), if_neg (by omega), if_neg]
  simpa using fun harmed => hv.resolve_right (by simp [harmed])

end

section
variable (m : Mbc5) {n : Nat} (v : Byte)

theorem mbc5_write_ramEnabled (h : n ≤ 0x1FFF) :
    m.write n v = { m with ramEnabled := decide (v.toNat % 16 = 0xA) } := by
  rw [Mbc5.write, if_pos (by omega), enablesRam_eq_decide]

theorem mbc5_write_bankLow (h : 0x2000 ≤ n ∧ n ≤ 0x2FFF) :
    m.write n v = { m with bank := BitVec.ofNat 9 (m.bank.toNat / 256 * 256 + v.toNat) } := by
  rw [Mbc5.write, if_neg (by omega), if_pos (by omega), mbc5Bank_low]

theorem mbc5_write_bankHigh (h : 0x3000 ≤ n ∧ n ≤ 0x3FFF) :
    m.write n v = { m with bank := BitVec.ofNat 9 (v.toNat % 2 * 256 + m.bank.toNat % 256) } := by
  rw [Mbc5.write, if_neg (by omega), if_neg (by omega), if_pos (by omega), mbc5Bank_high]

theorem mbc5_write_ramBank (h : 0x4000 ≤ n ∧ n ≤ 0x5FFF) :
    m.write n v = { m with ramBank := BitVec.ofNat 4 (v.toNat % 16) } := by
  rw [Mbc5.write, if_neg (by omega), if_neg (by omega), if_neg (by omega), if_pos (by omega),
    extractLsb'_zero_eq_mod (k := 16) rfl]

theorem mbc5_write_above (h : 0x6000 ≤ n) : m.write n v = m := by
  rw [Mbc5.write, if_neg (by omega), if_neg (by omega), if_neg (by omega), if_neg (by omega)]

end

/-! ## The ROM bank a register selects -/

/-- Where bank 0 is forbidden, bank 1 replaces it (R452). -/
theorem selectBank_forbidsZero (n b : Nat) :
    selectBank n b true = if b &&& (n - 1) = 0 then 1 else b &&& (n - 1) := by
  simp [selectBank]

theorem romCurr_mbc1 {s : State} {m : Mbc1} (hm : s.mapper = .mbc1 m) (h : m.upper = 0) :
    romCurr s = selectBank s.params.romBanks m.bank.toNat true := by
  simp only [romCurr, hm, if_pos h]

theorem romCurr_mbc3 {s : State} {m : Mbc3} (hm : s.mapper = .mbc3 m) :
    romCurr s = selectBank s.params.romBanks m.bank.toNat true := by
  simp only [romCurr, hm]

theorem romCurr_mbc5 {s : State} {m : Mbc5} (hm : s.mapper = .mbc5 m) :
    romCurr s = m.bank.toNat &&& (s.params.romBanks - 1) := by
  simp only [romCurr, hm]
  rfl

/-! ## The obligation -/

/-- Settles O46: the write is the mapper's, each range has its register, and the register masked is the bank. -/
theorem bankRegisterWrites : Obligations.BankRegisterWrites := by
  intro s a v hs
  refine ⟨fun hm ha => ⟨exec_writesBank_none hs ha hm, by simp only [romCurr, hm], by simp only [romLow, hm]⟩,
    fun m hm => ?mbc1, fun m hm => ?mbc3, fun m hm => ?mbc5, fun m hm hupper hlo hhi => ?mbc1Bank,
    fun m hm hlo hhi => ?mbc3Bank, fun m hm hlo hhi => ?mbc5Low, fun m hm hlo hhi => ?mbc5High⟩
  case mbc1 =>
    have hwrite (ha : a.toNat ≤ 0x7FFF) := exec_writesBank_mbc1 (v := v) hs ha hm
    refine ⟨fun hhi => ?_, fun hlo hhi => ?_, fun hlo hhi => ?_, fun hlo hhi => ?_⟩
    · rw [hwrite (by omega), mbc1_write_ramEnabled m v hhi]
    · rw [hwrite (by omega), mbc1_write_bank m v ⟨hlo, hhi⟩]
    · rw [hwrite (by omega), mbc1_write_upper m v ⟨hlo, hhi⟩]
    · rw [hwrite hhi, mbc1_write_mode m v hlo]
  case mbc3 =>
    have hwrite (ha : a.toNat ≤ 0x7FFF) := exec_writesBank_mbc3 (v := v) hs ha hm
    refine ⟨fun hhi => ?_, fun hlo hhi => ?_, fun hlo hhi => ?_⟩
    · rw [hwrite (by omega), mbc3Write_ramEnabled _ m v hhi]
    · rw [hwrite (by omega), mbc3Write_bank _ m v ⟨hlo, hhi⟩]
    · rw [hwrite (by omega), mbc3Write_select _ m v ⟨hlo, hhi⟩]
  case mbc5 =>
    have hwrite (ha : a.toNat ≤ 0x7FFF) := exec_writesBank_mbc5 (v := v) hs ha hm
    refine ⟨fun hhi => ?_, fun hlo hhi => ?_, fun hlo hhi => ?_, fun hlo hhi => ?_, fun hlo hhi => ?_⟩
    · rw [hwrite (by omega), mbc5_write_ramEnabled m v hhi]
    · rw [hwrite (by omega), mbc5_write_bankLow m v ⟨hlo, hhi⟩]
    · rw [hwrite (by omega), mbc5_write_bankHigh m v ⟨hlo, hhi⟩]
    · rw [hwrite (by omega), mbc5_write_ramBank m v ⟨hlo, hhi⟩]
    · rw [hwrite hhi, mbc5_write_above m v hlo, ← hm, ← current_mapper s]
  case mbc1Bank =>
    refine ⟨_, exec_writesBank_mbc1 hs (by omega) hm, rfl, ?_⟩
    rw [mbc1_write_bank m v ⟨hlo, hhi⟩, romCurr_mbc1 (m := { m with bank := BitVec.ofNat 5 (v.toNat % 32) }) rfl hupper,
      selectBank_forbidsZero]
    simp
  case mbc3Bank =>
    refine ⟨_, (exec_writesBank_mbc3 hs (by omega) hm).trans (congrArg _ (mbc3Write_bank _ m v ⟨hlo, hhi⟩)), rfl, ?_⟩
    rw [romCurr_mbc3 rfl, selectBank_forbidsZero]
    simp
  case mbc5Low =>
    have hbank := m.bank.isLt
    refine ⟨_, exec_writesBank_mbc5 hs (by omega) hm, rfl, ?_⟩
    rw [mbc5_write_bankLow m v ⟨hlo, hhi⟩, romCurr_mbc5 rfl, current_params, BitVec.toNat_ofNat,
      Nat.mod_eq_of_lt (by omega)]
  case mbc5High =>
    refine ⟨_, exec_writesBank_mbc5 hs (by omega) hm, rfl, ?_⟩
    rw [mbc5_write_bankHigh m v ⟨hlo, hhi⟩, romCurr_mbc5 rfl, current_params, BitVec.toNat_ofNat,
      Nat.mod_eq_of_lt (by omega)]

end Sys2Proof.Machine
end

section
/-! SUPPORT. The MBC3's clock (R454): what the latch copies, what its window reads and writes, and how the running clock
counts. -/

namespace Sys2Proof.Machine

open Sys2Proof.Safety

/-! ## The latch -/

/-- The clocks counted do not change while subsystems are brought to the clock. -/
theorem clockTotal_current (s : State) : clockTotal (current s) = s.epoch + s.ref := by
  simp [clockTotal]

theorem rtcNow_current (s : State) (m : Mbc3) : rtcNow (current s) m = rtcNow s m := by
  simp only [rtcNow, clockTotal_current, current_params]
  rfl

theorem latchRtc_emulated {s : State} (h : s.params.rtcSource = .emulated) (m : Mbc3) :
    latchRtc s m = { s with mapper := .mbc3 { m with
      latchArmed := false, running := rtcNow s m, latched := rtcNow s m, since := clockTotal s } } := by
  simp only [latchRtc, h]

/-- The five draws, as the clock's registers (log 18). -/
theorem drawRtc_fst (s : State) : (drawRtc s).1 = {
    seconds := Config.draw s.draws, minutes := Config.draw (s.draws + 1), hours := Config.draw (s.draws + 2)
    days := (Config.draw (s.draws + 4)).extractLsb' 0 1 ++ Config.draw (s.draws + 3)
    halt := (Config.draw (s.draws + 4)).getLsbD 6, carry := (Config.draw (s.draws + 4)).getLsbD 7 } := by
  have hlow (x : BitVec 1) (y : Byte) : (x ++ y).extractLsb' 0 8 = y := BitVec.extractLsb'_append_eq_right
  simp [drawRtc, drawByte, Rtc.write, Rtc.zero, hlow]

theorem latchRtc_host {s : State} (h : s.params.rtcSource = .host) (m : Mbc3) :
    latchRtc s m = { s with
      draws := s.draws + 5, mapper := .mbc3 { m with latchArmed := false, latched := (drawRtc s).1 } } := by
  simp only [latchRtc, h, drawRtc_snd]

/-- A byte written to 0x6000-0x7FFF of an MBC3 latches, or says whether the next 0x01 does (R454). -/
theorem exec_writesLatch {s : State} {a : Addr} {m : Mbc3} (hs : CpuMay s) (hm : s.mapper = .mbc3 m)
    (ha : 0x6000 ≤ a.toNat ∧ a.toNat ≤ 0x7FFF) :
    (∀ v : Byte, v ≠ 0x01 ∨ m.latchArmed = false →
      exec (.wr8 a v) s = .next { current s with mapper := .mbc3 { m with latchArmed := v == 0x00 } }) ∧
    (m.latchArmed = true → exec (.wr8 a 0x01) s = .next (latchRtc (current s) m)) := by
  refine ⟨fun v hv => ?_, fun harmed => ?_⟩
  · rw [exec_writesBank_mbc3 hs ha.2 hm, mbc3Write_arm _ m ha.1 hv]
  · rw [exec_writesBank_mbc3 hs ha.2 hm, mbc3Write_latch _ m ha.1 harmed]

/-! ## The window -/

/-- On any mapper but MBC6, whose reads are draws (R457), a read of the window is the mapper's own (R96). -/
theorem regionValue_window {s : State} {a : Addr} (h : ∀ m, s.mapper ≠ .mbc6 m)
    (ha : 0xA000 ≤ a.toNat ∧ a.toNat ≤ 0xBFFF) : regionValue a s = windowRead s a.toNat := by
  rw [regionValue_mapper (.inr ha), mapperRead_banked h, bankedRead, if_neg (by omega), if_neg (by omega)]

section
variable {s : State} {a : Addr} (hs : CpuMay s) (ha : 0xA000 ≤ a.toNat ∧ a.toNat ≤ 0xBFFF)
include hs ha

theorem exec_readsWindow (hf : ¬ conflicts (current s) a) (hm : ∀ m, s.mapper ≠ .mbc6 m) {b : Byte}
    (hv : windowRead (current s) a.toNat = (b, current s)) :
    exec (.rd8 a) s = .next { current s with response := some (.byte b) } :=
  exec_readsValue hs (.inl rfl) hf ((regionValue_window (by rwa [current_mapper]) ha).trans hv)

theorem exec_writesWindow (v : Byte) : exec (.wr8 a v) s = .next (windowWrite (current s) a.toNat v) := by
  rw [exec_writesBelow hs (.inl rfl) (by omega), regionWrite_window ha.1 ha.2]

end

/-! ## The window with a clock register selected -/

/-- With RAM enabled and a clock register selected the window reads its latched byte (R454). -/
theorem windowRead_clockByte {s : State} {b : Byte} (h : ClockByte s.mapper b) (n : Nat) : windowRead s n = (b, s) := by
  obtain ⟨m, hm, he, hsel⟩ := h
  have hclock : windowRead s n = (m.latched.read m.select.toNat, s) := by
    have hrange : 8 ≤ m.select.toNat ∧ m.select.toNat ≤ 12 := by
      obtain ⟨h, -⟩ | ⟨h, -⟩ | ⟨h, -⟩ | ⟨h, -⟩ | ⟨h, -⟩ := hsel <;> rw [h] <;> decide
    simp [windowRead, cameraSelected, hm, he, hrange]
  rw [hclock]
  obtain ⟨h, rfl⟩ | ⟨h, rfl⟩ | ⟨h, rfl⟩ | ⟨h, rfl⟩ | ⟨h, rfl⟩ := hsel <;> rw [h] <;> rfl

/-- A byte written there goes to the running register (log 18). -/
theorem windowWrite_clock {s : State} {m : Mbc3} (hm : s.mapper = .mbc3 m) (he : m.ramEnabled = true)
    (hsel : 0x8 ≤ m.select.toNat ∧ m.select.toNat ≤ 0xC) (n : Nat) (v : Byte) :
    windowWrite s n v = { s with mapper := .mbc3 { m with
      running := (rtcNow s m).write m.select.toNat v, since := clockTotal s } } := by
  simp [windowWrite, cameraSelected, hm, mbc3RamWrite, he, hsel]

/-! ## The running clock -/

/-- A clock that is not halted, with its registers in their ranges. -/
structure RtcRuns (r : Rtc) : Prop where
  running : r.halt = false
  seconds : r.seconds.toNat < 60
  minutes : r.minutes.toNat < 60
  hours : r.hours.toNat < 24

theorem rtcTime_lt {r : Rtc} (h : RtcRuns r) : rtcTime r < 512 * 86400 := by
  obtain ⟨-, hs, hm, hh⟩ := h
  have hd := r.days.isLt
  unfold rtcTime
  omega

/-- `t` is the clock `r` as it runs `n` seconds later: its time counts modulo 512 days, and passing them sets the carry
(log 18). -/
structure CountsOn (r : Rtc) (n : Nat) (t : Rtc) : Prop where
  runs : RtcRuns t
  time : rtcTime t = (rtcTime r + n) % (512 * 86400)
  carry : t.carry = (r.carry || decide (512 * 86400 ≤ rtcTime r + n))

/-- Within the 512 days the carry stays. -/
theorem countsOn_within {r t : Rtc} {n : Nat} (ht : RtcRuns t) (htime : rtcTime t = rtcTime r + n)
    (hcarry : t.carry = r.carry) : CountsOn r n t := by
  have hlt := rtcTime_lt ht
  rw [htime] at hlt
  exact ⟨ht, by rw [htime, Nat.mod_eq_of_lt hlt], by simp [hcarry, hlt]⟩

theorem countsOn_trans {r t u : Rtc} {m n : Nat} (h : CountsOn r m t) (h' : CountsOn t n u) :
    CountsOn r (m + n) u := by
  obtain ⟨-, htime, hcarry⟩ := h
  obtain ⟨hruns, htime', hcarry'⟩ := h'
  refine ⟨hruns, by rw [htime', htime, Nat.mod_add_mod, Nat.add_assoc], ?_⟩
  rw [hcarry', hcarry, htime, Bool.or_assoc, ← Bool.decide_or, decide_eq_decide.2]
  omega

/-- A register that is not at its last value counts on. -/
theorem toNat_add_one_below {b : Byte} {last : Nat} (h : b.toNat < last + 1) (hlast : last ≤ 254)
    (hne : b ≠ BitVec.ofNat 8 last) : (b + 1).toNat < last + 1 ∧ (b + 1).toNat = b.toNat + 1 := by
  have hne' : b.toNat ≠ last := fun he => hne (by simp [← he])
  have hnext : (b + 1).toNat = b.toNat + 1 := BitVec.toNat_add_of_lt (by simp; omega)
  exact ⟨by omega, hnext⟩

/-- One second: the first register that is not at its last value counts on, and those before it are 0 again. -/
theorem countsOn_tick {r : Rtc} (h : RtcRuns r) : CountsOn r 1 r.tick := by
  obtain ⟨hrun, hs, hm, hh⟩ := h
  rw [Rtc.tick, if_neg (by simp [hrun])]
  by_cases hsec : r.seconds ≠ 59
  · obtain ⟨hbelow, hnext⟩ := toNat_add_one_below hs (by decide) hsec
    rw [if_pos hsec]
    exact countsOn_within ⟨hrun, hbelow, hm, hh⟩ (by simp only [rtcTime]; omega) rfl
  have hsecLast : r.seconds.toNat = 59 := by simp [not_ne_iff.1 hsec]
  by_cases hmin : r.minutes ≠ 59
  · obtain ⟨hbelow, hnext⟩ := toNat_add_one_below hm (by decide) hmin
    rw [if_neg hsec, if_pos hmin]
    exact countsOn_within ⟨hrun, Nat.succ_pos _, hbelow, hh⟩ (by simp [rtcTime]; omega) rfl
  have hminLast : r.minutes.toNat = 59 := by simp [not_ne_iff.1 hmin]
  by_cases hhour : r.hours ≠ 23
  · obtain ⟨hbelow, hnext⟩ := toNat_add_one_below hh (by decide) hhour
    rw [if_neg hsec, if_neg hmin, if_pos hhour]
    exact countsOn_within ⟨hrun, Nat.succ_pos _, Nat.succ_pos _, hbelow⟩ (by simp [rtcTime]; omega) rfl
  have hhourLast : r.hours.toNat = 23 := by simp [not_ne_iff.1 hhour]
  rw [if_neg hsec, if_neg hmin, if_neg hhour]
  have hruns : RtcRuns { r with
      seconds := 0, minutes := 0, hours := 0, days := r.days + 1, carry := r.carry || r.days == 511 } :=
    ⟨hrun, Nat.succ_pos _, Nat.succ_pos _, Nat.succ_pos _⟩
  by_cases hday : r.days = 511
  · have htime : rtcTime r + 1 = 512 * 86400 := by simp [rtcTime, hsecLast, hminLast, hhourLast, hday]
    exact ⟨hruns, by rw [htime]; simp [rtcTime, hday], by rw [htime]; simp [hday]⟩
  · exact countsOn_within hruns (by simp [rtcTime]; bv_omega) (by simpa using fun h => absurd h hday)

/-- So does every number of seconds. -/
theorem rtc_advance_runs (n : Nat) {r : Rtc} (h : RtcRuns r) : CountsOn r n (r.advance n) := by
  induction n generalizing r with
  | zero => exact countsOn_within h rfl rfl
  | succ n ih =>
    have htick := countsOn_tick h
    rw [Rtc.advance, Nat.add_comm n 1]
    exact countsOn_trans htick (ih htick.runs)

theorem rtc_advance_halted (n : Nat) {r : Rtc} (h : r.halt = true) : r.advance n = r := by
  induction n with
  | zero => rfl
  | succ n ih => rw [Rtc.advance, Rtc.tick, if_pos h, ih]

end Sys2Proof.Machine
end

section
/-! SUPPORT. The MBC7's window (R455): the EEPROM's cells, the edges a byte written to 0xA080 makes, and the
accelerometer. -/

namespace Sys2Proof.Machine

open Sys2Proof.Safety

/-! ## The cells -/

theorem mbc7_cell_commit_same (m : Mbc7) (a w : Nat) : (m.commit a w).cell a = w := by
  simp [Mbc7.cell, Mbc7.commit]

/-- A commit writes no other cell (R455). -/
theorem mbc7_cell_commit_other {a b : Nat} (h : b ≠ a) (m : Mbc7) (w : Nat) : (m.commit a w).cell b = m.cell b := by
  have hsame (c : Nat × Nat) : decide ((c.1 != a) = true ∧ (c.1 == b) = true) = (c.1 == b) := by
    by_cases hc : c.1 = b <;> simp [hc, h]
  have hfind : (m.commit a w).cells.find? (fun c => c.1 == b) = m.cells.find? (fun c => c.1 == b) := by
    rw [Mbc7.commit, List.find?_cons_of_neg (by simpa using h.symm), List.find?_filter]
    simp only [hsame]
  simp only [Mbc7.cell, hfind]

@[simp] theorem mbc7_commit_eeprom (m : Mbc7) (a w : Nat) : (m.commit a w).eeprom = m.eeprom := rfl

@[simp] theorem mbc7_commit_banks (m : Mbc7) (a w : Nat) : (m.commit a w).banks = m.banks := rfl

/-- Committing several cells leaves the serial side and the bank registers. -/
theorem mbc7_commits_keep (cells : List (Nat × Nat)) (m : Mbc7) :
    (cells.foldl (fun m c => m.commit c.1 c.2) m).eeprom = m.eeprom ∧
      (cells.foldl (fun m c => m.commit c.1 c.2) m).banks = m.banks := by
  induction cells generalizing m with
  | nil => exact ⟨rfl, rfl⟩
  | cons c rest ih => exact ih (m.commit c.1 c.2)

/-! ## The edges -/

section
variable {m : Mbc7} {p : EepromPins}

/-- A rising CS edge in DONE (R455): what is pending is committed. -/
theorem mbc7_pins_commit {w : Nat} (hcs : m.eeprom.cs = false) (hphase : m.eeprom.phase = .done) (hp : p.cs = true)
    (hw : m.eeprom.pending = some w) : m.pins p =
      { m with eeprom := { m.eeprom with cs := true, sk := p.sk, phase := .idle, pending := none } }.commit
        m.eeprom.address w := by
  simp [Mbc7.pins, hcs, hphase, hp, hw]

/-- Where nothing is pending nothing is committed (log 19). -/
theorem mbc7_pins_commitNone (hcs : m.eeprom.cs = false) (hphase : m.eeprom.phase = .done) (hp : p.cs = true)
    (hw : m.eeprom.pending = none) : m.pins p =
      { m with eeprom := { m.eeprom with cs := true, sk := p.sk, phase := .idle, pending := none } } := by
  simp [Mbc7.pins, hcs, hphase, hp, hw]

/-- A rising SK edge while idle with the data bit set begins a command (R455). -/
theorem mbc7_pins_begin (hsk : m.eeprom.sk = false) (hphase : m.eeprom.phase = .idle) (hp : p.sk = true)
    (hdata : p.dataIn = true) : m.pins p =
      { m with eeprom := { m.eeprom with cs := p.cs, sk := true, phase := .receiveCommand, code := none } } := by
  simp [Mbc7.pins, hsk, hphase, hp, hdata]

/-- Without an edge nothing changes (log 19). -/
theorem mbc7_pins_noEdge (hcs : p.cs = m.eeprom.cs) (hsk : p.sk = m.eeprom.sk) : m.pins p = m := by
  simp [Mbc7.pins, hcs, hsk]

/-- Any other edge is not in the source (R455). -/
theorem mbc7_pins_other (hcommit : ¬ (p.cs = true ∧ m.eeprom.cs = false ∧ m.eeprom.phase = .done))
    (hbegin : ¬ (p.sk = true ∧ m.eeprom.sk = false ∧ m.eeprom.phase = .idle ∧ p.dataIn = true))
    (hedge : ¬ (p.cs = m.eeprom.cs ∧ p.sk = m.eeprom.sk)) : m.pins p = m.otherEdge p := by
  rw [Mbc7.pins, if_neg (by simpa [and_assoc] using hcommit), if_neg (by simpa [and_assoc] using hbegin),
    if_neg (by simpa using hedge)]

theorem mbc7_otherEdge_keeps (m : Mbc7) (p : EepromPins) :
    (m.otherEdge p).eeprom.phase = (Config.mbc7Other m.eeprom.command m.eeprom p m.cell).phase ∧
      (m.otherEdge p).eeprom.cs = p.cs ∧ (m.otherEdge p).eeprom.sk = p.sk ∧ (m.otherEdge p).banks = m.banks := by
  obtain ⟨heeprom, hbanks⟩ := mbc7_commits_keep (Config.mbc7Other m.eeprom.command m.eeprom p m.cell).cells _
  exact ⟨congrArg Eeprom.phase heeprom, congrArg Eeprom.cs heeprom, congrArg Eeprom.sk heeprom, hbanks⟩

end

/-- Every write to 0xA080 stores the pins' levels and leaves the bank registers. -/
theorem mbc7_pins_keeps (m : Mbc7) (p : EepromPins) :
    (m.pins p).eeprom.cs = p.cs ∧ (m.pins p).eeprom.sk = p.sk ∧ (m.pins p).banks = m.banks := by
  by_cases hcommit : p.cs = true ∧ m.eeprom.cs = false ∧ m.eeprom.phase = .done
  · obtain ⟨hp, hcs, hphase⟩ := hcommit
    cases hw : m.eeprom.pending with
    | none => rw [mbc7_pins_commitNone hcs hphase hp hw, hp]; exact ⟨rfl, rfl, rfl⟩
    | some w => rw [mbc7_pins_commit hcs hphase hp hw, hp]; exact ⟨rfl, rfl, rfl⟩
  by_cases hbegin : p.sk = true ∧ m.eeprom.sk = false ∧ m.eeprom.phase = .idle ∧ p.dataIn = true
  · obtain ⟨hp, hsk, hphase, hdata⟩ := hbegin
    rw [mbc7_pins_begin hsk hphase hp hdata, hp]
    exact ⟨rfl, rfl, rfl⟩
  by_cases hedge : p.cs = m.eeprom.cs ∧ p.sk = m.eeprom.sk
  · rw [mbc7_pins_noEdge hedge.1 hedge.2]
    exact ⟨hedge.1.symm, hedge.2.symm, rfl⟩
  · rw [mbc7_pins_other hcommit hbegin hedge]
    exact (mbc7_otherEdge_keeps m p).2

section
variable {m : Mbc7} {p : EepromPins}

/-- In DONE a rising CS edge leads to IDLE with nothing pending, and commits nothing where nothing was (log 19). -/
theorem mbc7_pins_done (hcs : m.eeprom.cs = false) (hphase : m.eeprom.phase = .done) (hp : p.cs = true) :
    (m.pins p).eeprom.phase = .idle ∧ (m.pins p).eeprom.pending = none ∧
      (m.eeprom.pending = none → (m.pins p).cells = m.cells) := by
  cases hw : m.eeprom.pending with
  | none =>
    rw [mbc7_pins_commitNone hcs hphase hp hw]
    exact ⟨rfl, rfl, fun _ => rfl⟩
  | some w =>
    rw [mbc7_pins_commit hcs hphase hp hw]
    exact ⟨rfl, rfl, nofun⟩

/-- The pending write reaches its cell with the rising CS edge, and no other (R455). -/
theorem mbc7_pins_pending {w : Nat} (hcs : m.eeprom.cs = false) (hphase : m.eeprom.phase = .done)
    (hw : m.eeprom.pending = some w) (hp : p.cs = true ∨ p.sk = m.eeprom.sk) :
    (m.pins p).cell m.eeprom.address = (if p.cs then w else m.cell m.eeprom.address) ∧
      ∀ a, a ≠ m.eeprom.address → (m.pins p).cell a = m.cell a := by
  cases hlevel : p.cs with
  | true =>
    rw [mbc7_pins_commit hcs hphase hlevel hw]
    exact ⟨mbc7_cell_commit_same _ _ w, fun a ha => mbc7_cell_commit_other ha _ w⟩
  | false =>
    rw [mbc7_pins_noEdge (hlevel.trans hcs.symm) (hp.resolve_left (by simp [hlevel]))]
    exact ⟨rfl, fun _ _ => rfl⟩

/-- While idle with SK low, a rising SK edge with the data bit set begins a command; no edge changes nothing (R455). -/
theorem mbc7_pins_idle (hsk : m.eeprom.sk = false) (hphase : m.eeprom.phase = .idle) :
    (m.pins p).eeprom.phase =
        (if p.sk && p.dataIn then .receiveCommand
          else if p.cs = m.eeprom.cs ∧ p.sk = false then .idle
          else (Config.mbc7Other m.eeprom.command m.eeprom p m.cell).phase) ∧
      (m.pins p).cells =
        (if p.sk && p.dataIn then m.cells
          else if p.cs = m.eeprom.cs ∧ p.sk = false then m.cells else (m.pins p).cells) := by
  by_cases hbegin : p.sk = true ∧ p.dataIn = true
  · rw [mbc7_pins_begin hsk hphase hbegin.1 hbegin.2]
    simp [hbegin]
  have hnot : ¬ (p.sk && p.dataIn) = true := by simpa using hbegin
  rw [if_neg hnot, if_neg hnot]
  by_cases hedge : p.cs = m.eeprom.cs ∧ p.sk = false
  · rw [if_pos hedge, if_pos hedge, mbc7_pins_noEdge hedge.1 (hedge.2.trans hsk.symm)]
    exact ⟨hphase, rfl⟩
  · rw [if_neg hedge, if_neg hedge, mbc7_pins_other (by simp [hphase]) (fun h => hbegin ⟨h.1, h.2.2.2⟩) (by rwa [hsk])]
    exact ⟨(mbc7_otherEdge_keeps m p).1, rfl⟩

end

/-! ## The window -/

section
variable {s : State} {m : Mbc7} (hm : s.mapper = .mbc7 m) (he : m.banks.ramEnabled = true)
include hm he

theorem windowWrite_mbc7_pins (v : Byte) :
    windowWrite s 0xA080 v = { s with mapper := .mbc7 (m.pinWrite v) } := by
  simp [windowWrite, cameraSelected, hm, he]

/-- A write elsewhere draws four bytes for the accelerometer and changes the mapper's core alone (log 19). -/
theorem windowWrite_mbc7_sensor {n : Nat} (hn : n ≠ 0xA080) (v : Byte) :
    ∃ core, windowWrite s n v = { s with
      draws := s.draws + 4, mapper := .mbc7 { m with banks := { m.banks with core := core } } } := by
  have hsensor : windowWrite s n v = sensorWrite s m n v := by simp [windowWrite, cameraSelected, hm, he, hn]
  exact ⟨_, by rw [hsensor, sensorWrite, drawBytes_snd]⟩

theorem windowRead_mbc7 (a : Addr) :
    windowRead s a.toNat = (Config.mbc7Read m.eeprom m.cell m.banks.core a, s) := by
  simp [windowRead, cameraSelected, hm, he]

end

/-! ## The obligation -/

/-- Settles O48: the latch, the window's bytes and the count of the MBC3's clock; the MBC7's window and its edges. -/
theorem rtcLatchAndEepromCommit : Obligations.RtcLatchAndEepromCommit := by
  refine ⟨fun s a m hs hm hlo hhi => ?latch, fun s a b hs hf hlo hhi hb => ?clockRead,
    fun s a v m hs hlo hhi hm he hlow hhigh => ?clockWrite, fun s m r k hsrc hr hk => ?clock,
    fun s a v m hs hlo hhi hm he => ?mbc7Window, fun m v => ?eeprom⟩
  case latch =>
    obtain ⟨harm, hlatch⟩ := exec_writesLatch hs hm ⟨hlo, hhi⟩
    refine ⟨harm, fun harmed he => ?_, fun d harmed hh hd => ?_⟩
    · have hlatched := latchRtc_emulated ((congrArg Params.rtcSource (current_params s)).trans he) m
      rw [rtcNow_current, clockTotal_current] at hlatched
      exact ⟨_, _, (hlatch harmed).trans (congrArg _ hlatched), rfl, rfl, rfl, rfl, rfl, rfl, rfl, rfl⟩
    · rw [hlatch harmed, latchRtc_host ((congrArg Params.rtcSource (current_params s)).trans hh), drawRtc_fst, hd]
  case clockRead =>
    have hcurrent : ClockByte (current s).mapper b := by rwa [current_mapper]
    refine exec_readsWindow hs ⟨hlo, hhi⟩ hf (fun m6 h6 => ?_) (windowRead_clockByte hcurrent _)
    obtain ⟨m, hm, -⟩ := hb
    simp [hm] at h6
  case clockWrite =>
    have hwrite := windowWrite_clock ((current_mapper s).trans hm) he ⟨hlow, hhigh⟩ a.toNat v
    rw [rtcNow_current, clockTotal_current] at hwrite
    refine ⟨_, (exec_writesWindow hs ⟨hlo, hhi⟩ v).trans (congrArg _ hwrite), ?_⟩
    refine ⟨?_, ?_, ?_, ?_, ?_⟩ <;> rintro h <;> rw [h] <;> rfl
  case clock =>
    have hadvance : r = m.running.advance k := by simp only [hr, hk, rtcNow, hsrc, clockTotal]
    refine ⟨fun hhalt => hadvance.trans (rtc_advance_halted k hhalt), fun hrun hsec hmin hhour => ?_⟩
    obtain ⟨⟨hrun', hsec', hmin', hhour'⟩, htime, hcarry⟩ := rtc_advance_runs k ⟨hrun, hsec, hmin, hhour⟩
    rw [hadvance]
    exact ⟨hsec', hmin', hhour', hrun', htime, hcarry⟩
  case mbc7Window =>
    have hcurrent : (current s).mapper = .mbc7 m := (current_mapper s).trans hm
    have hwrite := exec_writesWindow hs ⟨hlo, hhi⟩ v
    refine ⟨fun ha => ?_, fun ha => ?_, fun hf => ?_⟩
    · rw [hwrite, ha]
      exact congrArg _ (windowWrite_mbc7_pins hcurrent he v)
    · obtain ⟨core, hcore⟩ := windowWrite_mbc7_sensor hcurrent he (fun h => ha (BitVec.eq_of_toNat_eq h)) v
      exact ⟨core, hwrite.trans (congrArg _ hcore)⟩
    · exact exec_readsWindow hs ⟨hlo, hhi⟩ hf (by simp [hm]) (windowRead_mbc7 hcurrent he a)
  case eeprom =>
    obtain ⟨hcs, hsk, hbanks⟩ := mbc7_pins_keeps m (Config.mbc7Pins v)
    refine ⟨mbc7_pins_done, fun w hlow hphase hw => ⟨mbc7_pins_pending hlow hphase hw, hbanks⟩, mbc7_pins_noEdge,
      hcs, hsk, fun hlow hphase => ?_⟩
    obtain ⟨hphase', hcells⟩ := mbc7_pins_idle (p := Config.mbc7Pins v) hlow hphase
    exact ⟨hphase', hcells, hbanks⟩

end Sys2Proof.Machine
end

section
/-! SUPPORT. An illegal word and its mark (R147, R497): the decoder's refusal leaves the mark and nothing else, and no
operation of the block, POWERON included, takes a mark back. -/

namespace Sys2Proof.Machine

open Sys2Proof.Safety

/-! ## The relation -/

/-- A run marked as refused in `s` is marked in `t` (R497). -/
def RefusalStays (s t : State) : Prop := s.refused = true → t.refused = true

theorem RefusalStays.refl (s : State) : RefusalStays s s := id

theorem RefusalStays.trans {s t u : State} (h1 : RefusalStays s t) (h2 : RefusalStays t u) : RefusalStays s u :=
  h2 ∘ h1

theorem refusalStays_of_eq {s t : State} (h : t.refused = s.refused) : RefusalStays s t := h.trans

/-- What an operation may change without a CPU step (Safety) leaves the mark out. -/
theorem refusalStays_of_checkOnly {s t : State} (h : CheckOnly s t) : RefusalStays s t :=
  refusalStays_of_eq (congrArg State.refused h :)

theorem refusalStays_of_clockOnly {s t : State} (h : ClockOnly s t) : RefusalStays s t :=
  refusalStays_of_checkOnly (checkOnly_of_clockOnly h)

theorem raise_refusalStays (f : Fault) (s : State) : RefusalStays s (raise f s) :=
  refusalStays_of_clockOnly (raise_only f s)

theorem respond_refusalStays (r : Response) (s : State) : RefusalStays s (respond r s) :=
  refusalStays_of_clockOnly (respond_only r s)

theorem addClock_refusalStays (n : Nat) (s : State) : RefusalStays s (addClock n s) :=
  refusalStays_of_clockOnly (addClock_only n s)

theorem reconcileAll_refusalStays (s : State) : RefusalStays s (reconcileAll s) :=
  refusalStays_of_clockOnly (reconcileAll_clockOnly s)

theorem unlessFaulted_refusalStays {f : State → State} (s : State) (h : ∀ u, RefusalStays u (f u)) :
    RefusalStays s (unlessFaulted s f) := by
  unfold unlessFaulted
  split
  · exact h s
  · exact RefusalStays.refl s

theorem command_refusalStays {f : State → State} (s : State) (h : ∀ u, RefusalStays u (f u)) :
    RefusalStays s (command f s) := unlessFaulted_refusalStays (begun s) h

/-! ## The CPU step -/

theorem setHaltMode_refusalStays (m : HaltMode) (s : State) : RefusalStays s (setHaltMode m s) := by
  cases m with
  | run | halt => exact RefusalStays.refl s
  | stop =>
    unfold setHaltMode
    dsimp only
    split
    · exact addClock_refusalStays s.params.speedSwitchClocks
        { s with doubleSpeed := !s.doubleSpeed, key1Prepare := false, haltMode := .run }
    · exact RefusalStays.refl s

theorem cpuRule_refusalStays {i : Instr} {f : State → State} (h : cpuRule i = some f) (s : State) :
    RefusalStays s (f s) := by
  cases i <;> simp only [cpuRule, Option.some.injEq, reduceCtorEq] at h <;> subst h
  case rd8 a | rdreg8 a => exact refusalStays_of_clockOnly (readCommand_only a s)
  case wr8 a v | wrreg8 a v => exact refusalStays_of_clockOnly (writeCommand_only a v s)
  case clkget => exact respond_refusalStays _ s
  case clkadd n => exact addClock_refusalStays n.toNat s
  case dmaexec n => exact refusalStays_of_clockOnly (dmaExec_only n.toNat s)
  case cpusetPc | cpusetSp | cpusetIme => exact RefusalStays.refl s
  case cpusetHaltRun | cpusetHaltHalt | cpusetHaltStop => exact setHaltMode_refusalStays _ s

/-- A word of a CPU step can set the mark, and none clears it (log 3). -/
theorem cpuIssueWord_refusalStays (w : Word) (s : State) : RefusalStays s (cpuIssueWord w s) := by
  cases hw : decode w with
  | error e =>
    simp only [cpuIssueWord, hw]
    exact fun _ => rfl
  | ok i =>
    cases hi : cpuRule i with
    | none => exact cpuIssueWord_protocol hw hi s ▸ raise_refusalStays _ s
    | some f =>
      rw [cpuIssueWord_admitted hw hi, collectReply_eq]
      exact command_refusalStays s (cpuRule_refusalStays hi)

theorem cpuRun_refusalStays (next : Nat → List Response → Option Word) (k issued clocks : Nat) (s : State) :
    RefusalStays s (cpuRun next k issued clocks s).2 := by
  induction k generalizing issued clocks s with
  | zero => exact RefusalStays.refl s
  | succ k ih =>
    unfold cpuRun
    split
    · exact (cpuIssueWord_refusalStays _ s).trans (ih _ _ _)
    · exact RefusalStays.refl s

theorem cpuEnd_refusalStays (r : Nat × State) : RefusalStays r.2 (cpuEnd r) := by
  unfold cpuEnd
  split
  · exact raise_refusalStays _ r.2
  · exact RefusalStays.refl r.2

theorem cpuStep_refusalStays (s : State) : RefusalStays s (cpuStep s) := by
  have hrun (next : Nat → List Response → Option Word) (k : Nat) (u : State) :
      RefusalStays u (cpuEnd (cpuRun next k 0 0 u)) :=
    (cpuRun_refusalStays next k 0 0 u).trans (cpuEnd_refusalStays _)
  unfold cpuStep
  split
  · exact hrun _ _ { s with cpuTape := _, cpuReplies := [] }
  · exact hrun _ _ { s with cpuReplies := [] }

/-! ## The burst and the segment -/

theorem afterCheck_refusalStays (s : State) : RefusalStays s (afterCheck s) := by
  unfold afterCheck
  split
  · exact RefusalStays.refl s
  · split
    · exact cpuStep_refusalStays s
    · exact addClock_refusalStays _ s
    · exact addClock_refusalStays _ s

theorem payStall_refusalStays (s : State) : RefusalStays s (payStall s) :=
  (addClock_refusalStays _ s).trans (unlessFaulted_refusalStays _ fun u => RefusalStays.refl u)

theorem burstStep_refusalStays (s : State) : RefusalStays s (burstStep s) := by
  by_cases hm : s.hdma.mode = .general
  · rw [burstStep_general hm]
    exact refusalStays_of_clockOnly (dmaExec_only _ s)
  · obtain hstall | hstall := Nat.eq_zero_or_pos s.hdma.stall
    · rw [burstStep_check hm hstall]
      exact (refusalStays_of_checkOnly (irqCheck_only s)).trans (unlessFaulted_refusalStays _ afterCheck_refusalStays)
    · rw [burstStep_stall hm hstall]
      exact payStall_refusalStays s

theorem burstLoop_refusalStays (h k : Nat) (s : State) : RefusalStays s (burstLoop h k s) := by
  induction k generalizing s with
  | zero => exact RefusalStays.refl s
  | succ k ih =>
    refine (burstStep_refusalStays s).trans (unlessFaulted_refusalStays _ fun u => ?_)
    dsimp only
    split
    · exact RefusalStays.refl u
    · exact ih { u with breakFlag := false }

theorem setHorizon_refusalStays (s : State) : RefusalStays s (setHorizon s) := by
  have hreconciled := reconcileAll_refusalStays s
  unfold setHorizon
  generalize reconcileAll s = u at hreconciled ⊢
  dsimp only
  split
  · exact hreconciled.trans (raise_refusalStays _ u)
  · exact hreconciled

theorem burst_refusalStays (s : State) : RefusalStays s (burst s) :=
  (setHorizon_refusalStays s).trans
    (unlessFaulted_refusalStays _ fun u => burstLoop_refusalStays _ _ (startBurst u))

theorem segmentLoop_refusalStays (k : Nat) (s : State) : RefusalStays s (segmentLoop k s) := by
  induction k generalizing s with
  | zero => exact RefusalStays.refl s
  | succ k ih =>
    refine unlessFaulted_refusalStays s fun u => ?_
    split
    · exact (burst_refusalStays u).trans (ih _)
    · exact RefusalStays.refl u

theorem runFor_refusalStays (n : Nat) (s : State) : RefusalStays s (runFor n s) :=
  (segmentLoop_refusalStays _ (startSegment n s)).trans (reconcileAll_refusalStays _)

/-! ## Commands -/

theorem breakCheck_refusalStays (s : State) : RefusalStays s (breakCheck s) :=
  respond_refusalStays _ { s with breakFlag := false }

theorem reconcile_refusalStays (sub : Subsystem) (r : Nat) (s : State) : RefusalStays s (reconcile sub r s) := by
  unfold reconcile
  split
  · cases sub with
    | sound => exact RefusalStays.refl s
    | timer | serial | ppu | dma | camera => exact raise_refusalStays _ s
  · split
    · exact raise_refusalStays _ s
    · exact refusalStays_of_eq (congrArg State.refused (advance_only sub _ s) :)

theorem nextEvt_refusalStays (sub : Subsystem) (s : State) : RefusalStays s (nextEvt sub s) := by
  unfold nextEvt
  split
  · exact raise_refusalStays _ s
  · exact respond_refusalStays _ s

theorem subReset_refusalStays (sub : Subsystem) (s : State) : RefusalStays s (subReset sub s) :=
  refusalStays_of_eq (congrArg State.refused (subReset_only sub s) :)

theorem mapperSet_refusalStays (kind : MapperKind) (s : State) : RefusalStays s (mapperSet kind s) :=
  refusalStays_of_eq (congrArg State.refused (mapperSet_frame kind s) :)

/-- POWERON clears the fault and not the mark (R400, R497). -/
theorem powerOn_refused (model : BitVec 3) (boot cgb : Bool) (s : State) :
    (powerOn model boot cgb s).refused = s.refused := by
  rw [powerOn_eq]
  rfl

theorem exec_refusalStays {i : Instr} {s t : State} (h : exec i s = .next t) : RefusalStays s t := by
  have hrule {f : State → State} (hf : exec i s = .next (command f s)) (hstays : ∀ u, RefusalStays u (f u)) :
      RefusalStays s t :=
    Host.Outcome.next.inj (hf.symm.trans h) ▸ command_refusalStays s hstays
  have hadmitted {f : State → State} (hi : cpuRule i = some f) : RefusalStays s t :=
    hrule (exec_cpuRule hi s) (cpuRule_refusalStays hi)
  cases i with
  | rd8 | wr8 | rdreg8 | wrreg8 | clkget | clkadd | dmaexec | cpusetPc | cpusetSp | cpusetIme | cpusetHaltRun
  | cpusetHaltHalt | cpusetHaltStop => exact hadmitted rfl
  | brkchk => exact hrule rfl breakCheck_refusalStays
  | irqchk => exact hrule rfl fun u => refusalStays_of_checkOnly (irqCheck_only u)
  | horizon => exact hrule rfl fun u => (setHorizon_refusalStays u).trans (respond_refusalStays _ _)
  | reconcileTimer n | reconcileSerial n | reconcilePpu n | reconcileSound n | reconcileDma n | reconcileCamera n =>
    exact hrule rfl (reconcile_refusalStays _ n.toNat)
  | nextevtTimer | nextevtSerial | nextevtPpu | nextevtSound | nextevtDma | nextevtCamera =>
    exact hrule rfl (nextEvt_refusalStays _)
  | subresetTimer | subresetSerial | subresetPpu | subresetSound | subresetDma | subresetCamera =>
    exact hrule rfl (subReset_refusalStays _)
  | runfor n => exact hrule rfl (runFor_refusalStays n.toNat)
  | poweron m b c => exact Host.Outcome.next.inj h ▸ refusalStays_of_eq (powerOn_refused m b c s)
  | mappersetNone | mappersetMbc1 | mappersetMbc2 | mappersetMbc3 | mappersetMbc5 | mappersetMbc6 | mappersetMbc7
  | mappersetMmm01 | mappersetRumble | mappersetCamera => exact hrule rfl (mapperSet_refusalStays _)

/-! ## One step -/

theorem hostAct_refused (x : HostInput) (s : State) : (hostAct x s).refused = s.refused := by
  cases x with
  | command | cartridge | bootImage | takeAudio => rfl
  | joypad keys =>
    cases hj : s.params.hasJoypad with
    | false => rw [hostAct, moveJoypad_absent hj]
    | true => rw [hostAct, moveJoypad_present hj]
  | save => exact (congrArg State.refused (savedRtc_frame s) :)

/-- A word the opcode table does not have is taken from the queue and leaves the mark (R147, R497). -/
theorem step_illegalWord {s : State} {w : Word} {rest : List HostInput} (hq : s.inputs = .command w :: rest)
    (hw : illegalWord w) : step s = .next { s with inputs := rest, refused := true, response := none } := by
  obtain ⟨e, he⟩ := (decoderRefusesExactlyTheIllegalWords w).2 hw
  simp only [step, hq, he, refuseWord]

theorem step_refusalStays {s t : State} (h : step s = .next t) : RefusalStays s t := by
  cases hq : s.inputs with
  | nil =>
    rw [step, hq] at h
    exact Host.Outcome.next.inj h ▸ RefusalStays.refl s
  | cons x rest =>
    cases x with
    | command w =>
      cases hw : decode w with
      | ok i =>
        rw [stepRunsTheDecodedCommand s w rest i hq hw] at h
        exact exec_refusalStays (s := { s with inputs := rest }) h
      | error e =>
        rw [step_illegalWord hq ((decoderRefusesExactlyTheIllegalWords w).1 ⟨e, hw⟩)] at h
        exact Host.Outcome.next.inj h ▸ fun _ => rfl
    | cartridge | bootImage | joypad | takeAudio | save =>
      rw [step_hostAct hq nofun] at h
      exact Host.Outcome.next.inj h ▸ refusalStays_of_eq (hostAct_refused _ { s with inputs := rest })

/-- Settles O5: the decoder refuses the illegal words, every operation keeps the mark, and an end state has none. -/
theorem refusedWordMarksTheRun : Obligations.RefusedWordMarksTheRun := by
  refine ⟨fun s w rest => step_illegalWord, fun s t hstep hs => ?_⟩
  have ht : t.refused = true := step_refusalStays hstep hs
  refine ⟨ht, fun ⟨_, _, hclear⟩ => ?_⟩
  rw [ht] at hclear
  contradiction

end Sys2Proof.Machine
end

section
/-! SUPPORT. What a faulted block does with a command (R495), and the interrupt checks that acknowledge nothing (R404,
R475, R479, R481). -/

namespace Sys2Proof.Machine

open Sys2Proof.Safety

/-- Settles O8: every command but POWERON is a rule that a fault holds back. -/
theorem faultedStateIsQuiescent : Obligations.FaultedStateIsQuiescent := by
  intro s k i hs hi
  obtain ⟨f, hf, -⟩ := exec_rule hi s
  rw [hf, command_faulted hs]

/-! ## The interrupt check without an acknowledge -/

/-- Without a request a CPU that is not in STOP goes on as it is (R475). -/
theorem irqDecide_noRequest {s : State} (hh : s.haltMode ≠ .stop) (hp : pendingIrqs s = 0) : irqDecide s = s := by
  unfold irqDecide
  split
  · contradiction
  all_goals exact if_pos hp

/-- A running CPU with IME clear goes on, whatever is requested (R475). -/
theorem irqDecide_masked {s : State} (hh : s.haltMode = .run) (hime : s.ime = false) : irqDecide s = s := by
  simp only [irqDecide, hh, hime, Bool.false_eq_true, if_false, wakeWithoutService, ite_self]

/-- A halted CPU with IME clear and a request wakes in 4 clocks, where the clock has room for them (R479). -/
theorem irqDecide_wakes {s : State} (hh : s.haltMode = .halt) (hime : s.ime = false) (hp : pendingIrqs s ≠ 0)
    (hr : s.ref + 4 ≤ 0x7FFFFFFF) : irqDecide s = { s with haltMode := .run, ref := s.ref + 4 } := by
  have hdecide : irqDecide s = addClock 4 { s with haltMode := .run } := by
    rw [irqDecide, hh]
    dsimp only
    rw [if_neg hp, if_neg (ne_true_of_eq_false hime), wakeWithoutService, hh]
  exact hdecide.trans (addClock_room (s := { s with haltMode := .run }) hr)

/-- In STOP the check is STOP_EXIT alone (R481). -/
theorem irqDecide_stopped {s : State} (hh : s.haltMode = .stop) :
    irqDecide s = { s with haltMode := if stopExit s then .run else .stop } := by
  simp only [irqDecide, hh, stopCheck]
  split
  · rfl
  · rw [← hh]

theorem stopExit_joypadPending {s : State} (h : s.params.stopExit = .joypadPending) :
    stopExit s = s.ifReg.getLsbD 4 := by
  rw [stopExit, h]

/-- IRQCHK whose check leads to `t` without a fault answers the clocks `t` is ahead (R404). -/
theorem exec_irqchk_decided {s t : State} {n : Nat} (hs : CpuMay s) (h : irqDecide (current s) = t)
    (hfault : t.fault = none) (href : t.ref = s.ref + n) :
    exec .irqchk s = .next { t with response := some (.clocks n) } := by
  rw [exec_irqchk hs, h, respond_ready hfault, href, Nat.add_sub_cancel_left]

/-- Settles O41: IRQCHK is the check on the reconciled state, and one that acknowledges nothing changes the halt mode at
most, with 4 clocks for the wake from HALT. -/
theorem irqchkWithoutAcknowledge : Obligations.IrqchkWithoutAcknowledge := by
  intro s hs
  have hfault : (current s).fault = none := (current_fault s).trans hs.1
  have href : (current s).ref = s.ref := current_ref s
  have hhalt : (current s).haltMode = s.haltMode := by simp
  have hime : (current s).ime = s.ime := by simp
  have hie : (current s).ieReg = s.ieReg := by simp
  have hstopped (hstop : s.haltMode = .stop) : exec .irqchk s = .next { current s with
      haltMode := if stopExit (current s) then .run else .stop, response := some (.clocks 0) } :=
    exec_irqchk_decided hs (irqDecide_stopped (hhalt.trans hstop)) hfault href
  refine ⟨fun hh hp => ?noRequest, fun hh hi => ?masked, fun hh hi hp hr => ?wakes, fun hh hexit => ?exits,
    fun hh hexit => ?stays, fun hh hdefault => ?default⟩
  case noRequest =>
    exact exec_irqchk_decided hs (irqDecide_noRequest (hhalt ▸ hh) (by rwa [pendingIrqs, hie])) hfault href
  case masked => exact exec_irqchk_decided hs (irqDecide_masked (hhalt.trans hh) (hime.trans hi)) hfault href
  case wakes =>
    rw [← href] at hr ⊢
    exact exec_irqchk_decided hs
      (irqDecide_wakes (hhalt.trans hh) (hime.trans hi) (by rwa [pendingIrqs, hie]) hr) hfault (by rw [href])
  case exits => rw [hstopped hh, if_pos hexit]
  case stays =>
    rw [hstopped hh, if_neg (ne_true_of_eq_false hexit), ← hhalt.trans hh]
  case default =>
    rw [hstopped hh, stopExit_joypadPending ((congrArg Params.stopExit (current_params s)).trans hdefault)]

end Sys2Proof.Machine
end
